-- ==== Sys2Proof/Word.lean ====
section
/-! DEFINITION. The two word types of the block: the byte of the sensor register space (R57) and the
32-bit word of the host register space (R59, R60). Bit 0 is the least significant bit (R10). -/

namespace Sys2Proof

/-- One sensor register, one argument byte, one byte of a burst (R57, R64, R80). -/
abbrev Byte := BitVec 8

/-- One host register, one command word (R59, R80). -/
abbrev Word := BitVec 32

end Sys2Proof
end

