-- ==== Sys2Proof/Syntax.lean ====
section
/-! DEFINITION. The commands of the block: one constructor per row of the opcode map (R82).
A command with an operand carries the whole argument byte `arg` = command word bits 15:8 (R80); which of
its bits may be set is `Instr.WellFormed` (R83, R88), and the operand field is read out of it by the
machine. -/

namespace Sys2Proof

/-- The 15 host commands (R82). -/
inductive Instr where
  | init                          -- 0x01, R153
  | getT                          -- 0x10, R160
  | getP                          -- 0x11, R161
  | getH                          -- 0x12, R162
  | compT                         -- 0x20, R122
  | compP                         -- 0x21, R123
  | compH                         -- 0x22, R124
  | setOsrsT (arg : Byte)         -- 0x30, R135
  | setOsrsP (arg : Byte)         -- 0x31, R136
  | setOsrsH (arg : Byte)         -- 0x32, R137
  | setFilter (arg : Byte)        -- 0x33, R138
  | setStandby (arg : Byte)       -- 0x34, R139
  | setMode (arg : Byte)          -- 0x35, R140
  | getMode                       -- 0x36, R141
  | applyProfile (arg : Byte)     -- 0x38, R142
  deriving DecidableEq, Repr

end Sys2Proof
end

