-- ==== Sys2Proof/WellFormed.lean ====
section
/-! DEFINITION. Which commands are legal: no reserved bit of the argument byte is set (R83, R88). -/

namespace Sys2Proof

/-- No bit outside `named`, the argument bits an opcode's layout names, is set (R83: "A bit not named
for an opcode is reserved and must be 0"). -/
def argLegal (named arg : Byte) : Bool := arg &&& ~~~named == 0

/-- The argument bits R83 names for a command. -/
def Instr.argNamed : Instr → Byte
  | .init | .getT | .getP | .getH | .compT | .compP | .compH | .getMode => 0x00#8
  | .setOsrsT _ | .setOsrsP _ | .setOsrsH _ | .setFilter _ | .setStandby _ | .applyProfile _ => 0x07#8
  | .setMode _ => 0x03#8

/-- The argument byte of a command word (R80 bits 15:8): 0 for a command without operand. -/
def Instr.arg : Instr → Byte
  | .init | .getT | .getP | .getH | .compT | .compP | .compH | .getMode => 0x00#8
  | .setOsrsT a | .setOsrsP a | .setOsrsH a | .setFilter a | .setStandby a | .setMode a
  | .applyProfile a => a

/-- A command whose reserved argument bits are all 0 (R88). -/
def Instr.WellFormed (i : Instr) : Bool := argLegal i.argNamed i.arg

end Sys2Proof
end

