-- ==== Sys2Proof/Decode.lean ====
section
/-! DEFINITION. The decoder of command words, total and rejecting by name (R80 to R90), then the
encoder and the assembler text. -/

namespace Sys2Proof

/-- Why a command word is illegal (R89: "illegal under rule R81, R87 or R88"). -/
inductive Illegal where
  /-- Bits 31:16 are not all 0 (R81). -/
  | upperBits
  /-- The opcode is not in the map of R82 (R87). -/
  | opcode
  /-- A reserved argument bit is set (R88). -/
  | argument
  deriving DecidableEq, Repr

/-- The opcode field, command word bits 7:0 (R80). -/
def opField (w : Word) : Byte := w.extractLsb' 0 8

/-- The argument byte, command word bits 15:8 (R80). -/
def argField (w : Word) : Byte := w.extractLsb' 8 8

/-- The field that must be zero, command word bits 31:16 (R80, R81). -/
def zeroField (w : Word) : BitVec 16 := w.extractLsb' 16 16

/-- The opcode map of R82: the argument bits R83 names for the opcode, and the command. R80: "A decoder
tells the operation from `op` alone." -/
def opcodeMap (op arg : Byte) : Option (Byte × Instr) :=
  match op.toNat with
  | 0x01 => some (0x00#8, .init)
  | 0x10 => some (0x00#8, .getT)
  | 0x11 => some (0x00#8, .getP)
  | 0x12 => some (0x00#8, .getH)
  | 0x20 => some (0x00#8, .compT)
  | 0x21 => some (0x00#8, .compP)
  | 0x22 => some (0x00#8, .compH)
  | 0x30 => some (0x07#8, .setOsrsT arg)
  | 0x31 => some (0x07#8, .setOsrsP arg)
  | 0x32 => some (0x07#8, .setOsrsH arg)
  | 0x33 => some (0x07#8, .setFilter arg)
  | 0x34 => some (0x07#8, .setStandby arg)
  | 0x35 => some (0x03#8, .setMode arg)
  | 0x36 => some (0x00#8, .getMode)
  | 0x38 => some (0x07#8, .applyProfile arg)
  | _ => none

/-- Decode a command word. Every word either selects exactly one command or is illegal (R89). -/
def decode (w : Word) : Except Illegal Instr :=
  if zeroField w ≠ 0 then .error .upperBits
  else match opcodeMap (opField w) (argField w) with
    | none => .error .opcode
    | some (named, i) => if argLegal named (argField w) then .ok i else .error .argument

/-- The command an opcode-table word selects: a command is one 32-bit word (R80), so the bits above
`nbits` are 0 and the word is decoded whole. -/
def decodeTableWord (nbits w : Nat) : Option Instr :=
  match decode (BitVec.ofNat 32 (w % 2 ^ nbits)) with
  | .ok i => some i
  | .error _ => none

/-- The opcode of a command (R82). -/
def Instr.op : Instr → Byte
  | .init => 0x01#8
  | .getT => 0x10#8
  | .getP => 0x11#8
  | .getH => 0x12#8
  | .compT => 0x20#8
  | .compP => 0x21#8
  | .compH => 0x22#8
  | .setOsrsT _ => 0x30#8
  | .setOsrsP _ => 0x31#8
  | .setOsrsH _ => 0x32#8
  | .setFilter _ => 0x33#8
  | .setStandby _ => 0x34#8
  | .setMode _ => 0x35#8
  | .getMode => 0x36#8
  | .applyProfile _ => 0x38#8

/-- The command word of a command: `arg` in bits 15:8, `op` in bits 7:0, bits 31:16 zero (R80). -/
def encode (i : Instr) : Word := (i.arg.zeroExtend 32 <<< 8) ||| i.op.zeroExtend 32

/-! ## Assembler text (R91, R92) -/

/-- The name of an operand code, or `#n` for a code without a name (R92: "A disassembler prints the name for
a named code and `#n` for any other"). -/
def operandText (names : List (String × Nat)) (arg : Byte) : String :=
  match names.find? fun p => p.2 == arg.toNat with
  | some p => p.1
  | none => "#" ++ toString arg.toNat

/-- L of R92. -/
def levelNames : List (String × Nat) := [("skip", 0), ("x1", 1), ("x2", 2), ("x4", 3), ("x8", 4), ("x16", 5)]

/-- F of R92. -/
def filterNames : List (String × Nat) := [("off", 0), ("c2", 1), ("c4", 2), ("c8", 3), ("c16", 4)]

/-- S of R92. -/
def standbyNames : List (String × Nat) :=
  [("0.5ms", 0), ("62.5ms", 1), ("125ms", 2), ("250ms", 3), ("500ms", 4), ("1000ms", 5), ("10ms", 6),
    ("20ms", 7)]

/-- M of R92. -/
def modeNames : List (String × Nat) := [("sleep", 0), ("forced", 1), ("normal", 3)]

/-- Q of R92. -/
def profileNames : List (String × Nat) :=
  [("weather", 0), ("humidity", 1), ("indoor", 2), ("gaming", 3), ("default", 4)]

/-- The text of a command (R91). -/
def disassemble (i : Instr) : String :=
  match i with
  | .init => "init"
  | .getT => "get_t"
  | .getP => "get_p"
  | .getH => "get_h"
  | .compT => "comp_t"
  | .compP => "comp_p"
  | .compH => "comp_h"
  | .setOsrsT arg => "set_osrs_t " ++ operandText levelNames arg
  | .setOsrsP arg => "set_osrs_p " ++ operandText levelNames arg
  | .setOsrsH arg => "set_osrs_h " ++ operandText levelNames arg
  | .setFilter arg => "set_filter " ++ operandText filterNames arg
  | .setStandby arg => "set_standby " ++ operandText standbyNames arg
  | .setMode arg => "set_mode " ++ operandText modeNames arg
  | .getMode => "get_mode"
  | .applyProfile arg => "apply_profile " ++ operandText profileNames arg

/-- The code an operand stands for: its name, or `#n` with n the code in decimal (R91). -/
def operandCode (names : List (String × Nat)) (text : String) : Option Byte :=
  match names.find? (fun p => p.1 == text), (List.range 8).find? (fun n => "#" ++ toString n == text) with
  | some p, _ => some (BitVec.ofNat 8 p.2)
  | none, some n => some (BitVec.ofNat 8 n)
  | none, none => none

/-- The legal command of a mnemonic and its operand, "" for none (R91). -/
def assemble (mnemonic operand : String) : Option Instr :=
  let plain (i : Instr) : Option Instr := if operand == "" then some i else none
  let coded (names : List (String × Nat)) (make : Byte → Instr) : Option Instr :=
    (operandCode names operand).bind fun arg => if (make arg).WellFormed then some (make arg) else none
  if mnemonic == "init" then plain .init
  else if mnemonic == "get_t" then plain .getT
  else if mnemonic == "get_p" then plain .getP
  else if mnemonic == "get_h" then plain .getH
  else if mnemonic == "comp_t" then plain .compT
  else if mnemonic == "comp_p" then plain .compP
  else if mnemonic == "comp_h" then plain .compH
  else if mnemonic == "get_mode" then plain .getMode
  else if mnemonic == "set_osrs_t" then coded levelNames .setOsrsT
  else if mnemonic == "set_osrs_p" then coded levelNames .setOsrsP
  else if mnemonic == "set_osrs_h" then coded levelNames .setOsrsH
  else if mnemonic == "set_filter" then coded filterNames .setFilter
  else if mnemonic == "set_standby" then coded standbyNames .setStandby
  else if mnemonic == "set_mode" then coded modeNames .setMode
  else if mnemonic == "apply_profile" then coded profileNames .applyProfile
  else none

end Sys2Proof
end

