-- ==== Sys2Proof/Config.lean ====
section
/-! DEFINITION. The parameters of R9 and the free values: what the spec leaves open and no proof may
see. The parameters are a plain-data field of State that no step writes, so that a claim holds for every
choice of them (R9: "`OPEN`, meaning the model takes it as an argument"). -/

namespace Sys2Proof.Config

/-- `H45_EXT`: how the 12-bit packed `dig_H4`, `dig_H5` are widened (R9, R104). -/
inductive H45Ext where
  | sext12
  | zext12
  deriving DecidableEq, Repr

/-- The open parameters of R9. `TCODE_W` = 8 is fixed by the width of `Status.errTcode`; `PROFILE_TABLE`
is `Machine.profileRow`; `FLOAT_FMT` is host-side and not part of the block. -/
structure Params where
  /-- `POLL_LIMIT`: the most status reads one poll makes; `none` is unbounded (R9, R159, C13). -/
  pollLimit : Option Nat
  /-- `CHIP_ID`: the identifier INIT expects (R9, R152). -/
  chipId : Byte
  /-- `SLAVE_ADDR`: the sensor's 7-bit bus address, used by the transport only (R9, R62). -/
  slaveAddr : BitVec 7
  /-- `H45_EXT` (R9, R104). -/
  h45Ext : H45Ext
  deriving DecidableEq, Repr

/-- The parameters the reset state carries: R9's values where it gives them; POLL_LIMIT 10 and
SLAVE_ADDR 0x76 are DESIGN CHOICE (log entry 3). -/
def defaultParams : Params where
  pollLimit := some 10
  chipId := 0x60#8
  slaveAddr := 0x76#7
  h45Ext := .sext12

/-- Free bytes: what a sensor register holds after a failed or abandoned write (R134, R193), and the
mode and measuring bits after a mode write whose effect no source gives (R150). -/
opaque freeByte : Nat → Byte

/-- Free choices: whether the sensor ignores a write to `config` in Normal mode (R201: "may ignore"), and
what a failed or abandoned `ctrl_meas` write leaves of the measurement under way. -/
opaque freeBool : Nat → Bool

end Sys2Proof.Config
end

