-- ==== Sys2Proof/Machine/State.lean ====
section
/-! DEFINITION. The state of the block, of the sensor it drives, and of the inputs the host and the
transport still have to give (10_state.md; 20_memory.md; R7's three agents). Plain data throughout. -/

namespace Sys2Proof.Machine

/-! ## The block's registers -/

/-- `STATUS` by its fields (R28). The reserved bits are not stored: they read as 0 (`Status.word`). -/
structure Status where
  /-- Bit 0: a command is running (R29). -/
  busy : Bool
  /-- Bit 1: the session is initialised (R30). -/
  init : Bool
  /-- Bit 2: the calibration store holds a complete decode (R31). -/
  calv : Bool
  /-- Bit 3: `TFINE` holds a value from a temperature compensation (R32). -/
  tfv : Bool
  /-- Bit 4: the last pressure compensation took the guard (R33). -/
  pguard : Bool
  /-- Bit 5: a command write was dropped while busy (R34). -/
  overrun : Bool
  /-- Bits 11:8: the error code of the last accepted command (R35). -/
  err : BitVec 4
  /-- Bits 14:12: the failing profile step (R36). -/
  errStep : BitVec 3
  /-- Bits 23:16: the preserved transport code (R37). -/
  errTcode : BitVec 8
  deriving DecidableEq, Repr

/-- The calibration store: 18 fields, each as wide as R38 says. -/
structure Calib where
  digT1 : BitVec 16
  digT2 : BitVec 16
  digT3 : BitVec 16
  digP1 : BitVec 16
  digP2 : BitVec 16
  digP3 : BitVec 16
  digP4 : BitVec 16
  digP5 : BitVec 16
  digP6 : BitVec 16
  digP7 : BitVec 16
  digP8 : BitVec 16
  digP9 : BitVec 16
  digH1 : BitVec 8
  digH2 : BitVec 16
  digH3 : BitVec 8
  digH4 : BitVec 16
  digH5 : BitVec 16
  digH6 : BitVec 8
  deriving DecidableEq, Repr

/-! ## The bus and the sequencer -/

/-- One bus transaction the block asks for (R14, R62). -/
inductive Request where
  /-- `MemRead(a, n)`: `readRegister` for n = 1, `readBurst` for n >= 2. -/
  | read (a : Byte) (n : Nat)
  /-- `MemWrite(a, 1, v)`: `writeRegister`. -/
  | write (a v : Byte)
  deriving DecidableEq, Repr

/-- The answer to one transaction (R14): `Ok` with the bytes read (none for a write), or `Err` with the
transport's own code, of any width (R62). -/
inductive Answer where
  | ok (bytes : List Byte)
  | err (code : Nat)
  deriving DecidableEq, Repr

/-- The six steps of a profile application, R143's k = 1 .. 6. -/
inductive ProfileStep where
  | osrsT
  | osrsP
  | osrsH
  | filter
  | standby
  | mode
  deriving DecidableEq, Repr

/-- A position in a command's script: the transaction whose answer the script waits for (R22, R41). The
profile step index k of R41 is part of the two profile positions. -/
inductive Pos where
  /-- INIT: the chip identifier (R152). -/
  | id
  /-- INIT: calibration block A (R154). -/
  | calA
  /-- INIT: calibration block B (R154). -/
  | calB
  /-- A setter's read half (R134). -/
  | rmwRead
  /-- A setter's write half (R134). -/
  | rmwWrite
  /-- The read half of profile step k (R143). -/
  | profRead (k : ProfileStep)
  /-- The write half of profile step k (R143). -/
  | profWrite (k : ProfileStep)
  /-- The read of `ctrl_meas` of GET_MODE (R141) and of MeasurePrep (R156). -/
  | mode
  /-- The write forcing Forced mode (R157). -/
  | forced
  /-- A status read of the poll (R158). -/
  | poll
  /-- The temperature burst (R160). -/
  | temp
  /-- The pressure burst (R161). -/
  | press
  /-- The humidity burst (R162). -/
  | hum
  deriving DecidableEq, Repr

/-- What `SEQ` records of the running command (R41). -/
structure Job where
  /-- The whole command word: `CMD` keeps only bits 15:0, and bits 31:16 are checked at the first step
  (R81, R84). -/
  word : Word
  /-- `SEQ.operand`: `ARG` as it was at acceptance (R85). -/
  operand : Word
  /-- `poll_count` (R158). -/
  pollCount : Nat
  /-- The mode byte m, as read by R156. -/
  m : Byte
  /-- The bytes of the last burst read. -/
  burst : List Byte
  deriving DecidableEq, Repr

/-- The sequencer state `SEQ` (R41). -/
inductive Seq where
  /-- No command runs (R41: "When `BUSY` = 0, `SEQ` = Idle"). -/
  | idle
  /-- Accepted; the first step, with its checks (R180), comes next. -/
  | start (job : Job)
  /-- A transaction is in flight: the transport moves next (R8, R16). -/
  | flight (job : Job) (q : Request) (pos : Pos)
  /-- The transaction of `pos` has been answered: the block moves next (R16). -/
  | ready (job : Job) (pos : Pos) (ans : Answer)
  deriving DecidableEq, Repr

/-- The errors a command can end with (R173). -/
inductive Error where
  /-- A transaction answered `Err(code)` (R174). -/
  | transport (code : Nat)
  /-- `INIT` = 0, or a wrong chip identifier (R175). -/
  | notInitialized
  /-- The poll reached its bound (R178). -/
  | timeout
  /-- An illegal encoding or operand (R179). -/
  | illegalCommand
  /-- COMP_P or COMP_H with `TFV` = 0 (R181). -/
  | tfineInvalid
  deriving DecidableEq, Repr

/-! ## The sensor register space and the sensor -/

/-- The sensor register space (R57) as the bytes that differ from what an unlisted address reads as
(`Memory.unlisted`), by strictly rising address. -/
abbrev Memory := List Host.Cell

/-- The sensor agent: its registers (R43 to R53) and the two pieces of state it holds behind them
(R56). -/
structure Sensor where
  /-- The 256 registers. -/
  mem : Memory
  /-- The humidity oversampling in effect: `ctrl_hum[2:0]` as of the last write to `ctrl_meas` (R46,
  R200). -/
  humCtl : BitVec 3
  /-- The measurement under way measures temperature: `osrs_t` was not "skipped" when it started. -/
  liveT : Bool
  /-- The measurement under way measures pressure. -/
  liveP : Bool
  /-- The measurement under way measures humidity. -/
  liveH : Bool
  deriving DecidableEq, Repr

/-! ## What the outside world still has to give -/

/-- The transport's reply to the next transaction (R63: any bytes or any `Err(c)`). `ok bytes` gives the
first bytes of a read; a byte it does not give is the sensor's own register, so `ok []` is a transaction
that simply reaches the sensor. -/
inductive Reply where
  | ok (bytes : List Byte)
  | err (code : Nat)
  deriving DecidableEq, Repr

/-- The three agents of a run (R7). -/
inductive Agent where
  /-- Writes commands and operands into the host registers and reads results. -/
  | host
  /-- Executes one command at a time as a script of steps. -/
  | block
  /-- The transport and the sensor behind it: answers each transaction, and makes the sensor's own moves. -/
  | transport
  deriving DecidableEq, Repr

/-- The moves of the host, the block's reset input among them. -/
inductive HostMove where
  /-- Write `v` with an access of `size` bytes at `offset` of the host window (R60). -/
  | write (offset size : Nat) (v : Word)
  /-- Read with an access of `size` bytes at `offset` (R60). -/
  | read (offset size : Nat)
  /-- Read `STATUS` until `BUSY` = 0 (R91 `wait`). -/
  | wait
  /-- Apply the block's reset, the platform's reset input (R193). -/
  | reset
  deriving DecidableEq, Repr

/-- What happens in or to the sensor without a transaction of the block. -/
inductive SensorMove where
  /-- A measurement starts and raises `measuring` (R150, R202). -/
  | start
  /-- The measurement under way ends with these raw readings (R150). -/
  | finish (rawT rawP : BitVec 20) (rawH : BitVec 16)
  /-- A power-on or soft reset of the sensor (R55, R195). -/
  | reset
  /-- A register changes for a reason outside the block: another bus master (R190), the sensor itself
  (R71). -/
  | disturb (a v : Byte)
  deriving DecidableEq, Repr

/-- What comes next between the steps of the block and the transport. -/
inductive Input where
  /-- The host moves. -/
  | host (m : HostMove)
  /-- The sensor moves. -/
  | sensor (m : SensorMove)
  /-- The agent whose turn it is in the running script, the block or the transport, takes one step. -/
  | pass
  deriving DecidableEq, Repr

/-- One completed bus transaction, as the sensor saw it (R75): the slave address the transport used
(R62), the request and its answer. -/
structure Transaction where
  slave : BitVec 7
  req : Request
  ans : Answer
  deriving DecidableEq, Repr

/-! ## The whole state -/

/-- The machine: the block (R20 to R42, R54), the sensor behind the transport (R43 to R55), the inputs
still to come, and the model's own record of what was observed. -/
structure State where
  /-- `CMD` bits 15:0; bits 31:16 read as 0 (R24). -/
  cmd : BitVec 16
  /-- `ARG` (R25). -/
  arg : Word
  /-- `RESULT` (R26). -/
  result : Word
  /-- `TFINE`, a signed 32-bit value (R27). -/
  tfine : Word
  /-- `STATUS` (R28). -/
  status : Status
  /-- `calib.*` (R38). -/
  calib : Calib
  /-- `scratch[0..32]` (R40). -/
  scratch : List Byte
  /-- `SEQ` (R41). -/
  seq : Seq
  /-- The parameters of R9; no step writes them. -/
  params : Config.Params
  /-- The sensor agent (R7 (3)). -/
  sensor : Sensor
  /-- The transport's replies to come, the next first (R63). When none is left, the sensor answers. -/
  replies : List Reply
  /-- The moves of the outside world to come, the next first. -/
  inputs : List Input
  /-- MODEL FIELD: what the host's reads returned, oldest first (R59). -/
  hostReads : List Word
  /-- MODEL FIELD: the completed bus transactions, oldest first (R75). -/
  trace : List Transaction
  /-- MODEL FIELD: how many free values have been drawn (`Config.freeByte`, `Config.freeBool`). -/
  freeCount : Nat
  deriving DecidableEq, Repr

/-! ## Reset -/

/-- `STATUS` = 0x00000000 (R54). -/
def Status.reset : Status :=
  { busy := false, init := false, calv := false, tfv := false, pguard := false, overrun := false,
    err := 0, errStep := 0, errTcode := 0 }

/-- Every calibration field 0 (R38, R54). -/
def Calib.reset : Calib :=
  { digT1 := 0, digT2 := 0, digT3 := 0, digP1 := 0, digP2 := 0, digP3 := 0, digP4 := 0, digP5 := 0,
    digP6 := 0, digP7 := 0, digP8 := 0, digP9 := 0, digH1 := 0, digH2 := 0, digH3 := 0, digH4 := 0,
    digH5 := 0, digH6 := 0 }

/-- The sensor at power-on (R55): every register at its unlisted value, so the mode is Sleep. -/
def Sensor.reset : Sensor :=
  { mem := [], humCtl := 0, liveT := false, liveP := false, liveH := false }

/-- The block after its reset (R54, R194), beside a sensor at power-on (R55), with no input to come. -/
def State.reset : State where
  cmd := 0
  arg := 0
  result := 0
  tfine := 0
  status := Status.reset
  calib := Calib.reset
  scratch := List.replicate 33 0
  seq := .idle
  params := Config.defaultParams
  sensor := Sensor.reset
  replies := []
  inputs := []
  hostReads := []
  trace := []
  freeCount := 0

/-! ## How a step can stop -/

/-- The faults. -/
inductive Fault where
  /-- Raised by a command's meaning when `SEQ` holds a position that the command's script does not have.
  R22 lets control move only as the script says, so no run reaches it from reset (`Safety.Consistent` rules it out).
  Safe: the model stops. -/
  | position
  deriving DecidableEq, Repr

/-- The refusals. -/
inductive Refusal where
  /-- Raised by an arm of `exec` whose instruction has no meaning yet. Safe: the model stops. -/
  | notModelled (mnemonic : String)
  /-- Raised by a host access that is not an aligned 32-bit word inside the 256-byte window (R60: "the
  block gives it no meaning and a model refuses it"). Safe: the model stops. -/
  | hostAccess (offset size : Nat)
  deriving DecidableEq, Repr

/-- What a step answers. -/
abbrev Result := Host.Outcome State Fault Refusal

end Sys2Proof.Machine
end

