-- ==== Sys2Proof/Machine/Flags.lean ====
section
/-! DEFINITION. The status word and the error codes (R28, R35 to R37, R173). -/

namespace Sys2Proof.Machine

/-- A flag at its bit of the status word. -/
def flagAt (b : Bool) (bit : Nat) : Word := if b then 1#32 <<< bit else 0#32

/-- `STATUS` as the host reads it (R28): the reserved bits 31:24, 15 and 7:6 read as 0. -/
def Status.word (st : Status) : Word :=
  flagAt st.busy 0 ||| flagAt st.init 1 ||| flagAt st.calv 2 ||| flagAt st.tfv 3 ||| flagAt st.pguard 4 |||
    flagAt st.overrun 5 ||| (st.err.zeroExtend 32 <<< 8) ||| (st.errStep.zeroExtend 32 <<< 12) |||
    (st.errTcode.zeroExtend 32 <<< 16)

/-- The number of an error in `STATUS.ERR` (R173). -/
def Error.code : Error → BitVec 4
  | .transport _ => 1
  | .notInitialized => 2
  | .timeout => 3
  | .illegalCommand => 4
  | .tfineInvalid => 5

/-- The low `TCODE_W` = 8 bits of a transport code (R37, R176). -/
def keptCode (code : Nat) : BitVec 8 := BitVec.ofNat 8 code

/-- The index of a profile step (R36, R143): 1 to 6. -/
def ProfileStep.index : ProfileStep → BitVec 3
  | .osrsT => 1
  | .osrsP => 2
  | .osrsH => 3
  | .filter => 4
  | .standby => 5
  | .mode => 6

/-- `STATUS` at acceptance (R85): the last command's report is cleared and `BUSY` is set. -/
def Status.accepted (st : Status) : Status :=
  { st with err := 0, errStep := 0, errTcode := 0, pguard := false, overrun := false, busy := true }

/-- `STATUS` when a script ends normally (R84 step 5, R35). -/
def Status.completed (st : Status) : Status := { st with err := 0, busy := false }

/-- `STATUS` when a command ends with error `e` (R176): `ERR_TCODE` is written for a transport error
only, `ERR_STEP` keeps what the script wrote. -/
def Status.failed (e : Error) (st : Status) : Status :=
  match e with
  | .transport code => { st with err := e.code, errTcode := keptCode code, busy := false }
  | .notInitialized | .timeout | .illegalCommand | .tfineInvalid => { st with err := e.code, busy := false }

/-- `STATUS` at the start of INIT (R153). -/
def Status.sessionCleared (st : Status) : Status := { st with init := false, calv := false, tfv := false }

/-- `STATUS` once INIT has read the calibration (R153). -/
def Status.sessionReady (st : Status) : Status := { st with calv := true, init := true }

end Sys2Proof.Machine
end

