-- ==== Sys2Proof/Machine/Operands.lean ====
section
/-! DEFINITION. The operand forms: sensor register addresses and fields (R43 to R53), the argument and
`ARG` operands (R83, R105), raw value assembly (R99, R100), the calibration image (R102 to R104) and the
profile table (R107, R147). -/

namespace Sys2Proof.Machine

/-! ## Sensor register addresses (R44 to R53) -/

def regId : Byte := 0xD0#8
def regReset : Byte := 0xE0#8
def regCtrlHum : Byte := 0xF2#8
def regStatus : Byte := 0xF3#8
def regCtrlMeas : Byte := 0xF4#8
def regConfig : Byte := 0xF5#8
def regPress : Byte := 0xF7#8
def regTemp : Byte := 0xFA#8
def regHum : Byte := 0xFD#8
def regCalA : Byte := 0x88#8
def regCalB : Byte := 0xE1#8

/-! ## Register fields a script writes (R134 to R140) -/

/-- A field of a sensor register and the value to put there: the arguments of `UpdateField` (R134). -/
structure Field where
  addr : Byte
  mask : Byte
  value : Byte
  deriving DecidableEq, Repr

/-- The byte `UpdateField` writes back: bits outside the mask are preserved (R134). -/
def Field.merge (f : Field) (r : Byte) : Byte := (r &&& ~~~f.mask) ||| (f.value &&& f.mask)

/-- `ctrl_meas[7:5]` (R135). -/
def osrsTField (code : BitVec 3) : Field := ⟨regCtrlMeas, 0xE0#8, code.zeroExtend 8 <<< 5⟩

/-- `ctrl_meas[4:2]` (R136). -/
def osrsPField (code : BitVec 3) : Field := ⟨regCtrlMeas, 0x1C#8, code.zeroExtend 8 <<< 2⟩

/-- `ctrl_hum[2:0]` (R137). -/
def osrsHField (code : BitVec 3) : Field := ⟨regCtrlHum, 0x07#8, code.zeroExtend 8⟩

/-- `config[4:2]` (R138). -/
def filterField (code : BitVec 3) : Field := ⟨regConfig, 0x1C#8, code.zeroExtend 8 <<< 2⟩

/-- `config[7:5]` (R139). -/
def standbyField (code : BitVec 3) : Field := ⟨regConfig, 0xE0#8, code.zeroExtend 8 <<< 5⟩

/-- `ctrl_meas[1:0]` (R140). -/
def modeField (code : BitVec 2) : Field := ⟨regCtrlMeas, 0x03#8, code.zeroExtend 8⟩

/-- The power-mode bits of a `ctrl_meas` byte (R48, R95). -/
def modeBits (ctrlMeas : Byte) : BitVec 2 := ctrlMeas.extractLsb' 0 2

/-- Mode code 11 is Normal (R95). -/
def isNormal (mode : BitVec 2) : Bool := mode == 0b11#2

/-- Mode codes 01 and 10 are both Forced (R95). -/
def isForced (mode : BitVec 2) : Bool := mode == 0b01#2 || mode == 0b10#2

/-- The byte the forced write of R157 writes: mode 01, the other bits as read. -/
def forcedByte (m : Byte) : Byte := (m &&& 0xFC#8) ||| 0x01#8

/-- `status[3]`, the only status bit the block reads (R98). -/
def measuringBit (status : Byte) : Bool := status.getLsbD 3

/-! ## Argument and `ARG` operands -/

/-- The 3-bit code of an argument byte: `level`, `coef`, `tsb` or `profile` (R83). -/
def code3 (arg : Byte) : BitVec 3 := arg.extractLsb' 0 3

/-- The 2-bit code of an argument byte: `mode` (R83). -/
def code2 (arg : Byte) : BitVec 2 := arg.extractLsb' 0 2

/-- The 20-bit raw operand of COMP_T and COMP_P (R105). -/
def operand20 (w : Word) : BitVec 20 := w.extractLsb' 0 20

/-- `ARG[31:20]` must be 0 for COMP_T and COMP_P (R105). -/
def operand20Legal (w : Word) : Bool := w.extractLsb' 20 12 == 0

/-- The 16-bit raw operand of COMP_H (R105). -/
def operand16 (w : Word) : BitVec 16 := w.extractLsb' 0 16

/-- `ARG[31:16]` must be 0 for COMP_H (R105). -/
def operand16Legal (w : Word) : Bool := w.extractLsb' 16 16 == 0

/-! ## Byte sequences -/

/-- Byte `i` of a burst or buffer. -/
def byteAt (bytes : List Byte) (i : Nat) : Byte := bytes.getD i 0

/-- The buffer with `src` written from index `off` on. -/
def putBytes (buf : List Byte) (off : Nat) (src : List Byte) : List Byte :=
  buf.take off ++ src ++ buf.drop (off + src.length)

/-- Raw temperature or pressure from a 3-byte burst, most significant byte first (R99). -/
def adc20 (b : List Byte) : BitVec 20 :=
  ((byteAt b 0).zeroExtend 20 <<< 12) ||| ((byteAt b 1).zeroExtend 20 <<< 4) |||
    (byteAt b 2 >>> 4).zeroExtend 20

/-- Raw humidity from a 2-byte burst, most significant byte first (R100). -/
def adc16 (b : List Byte) : BitVec 16 :=
  ((byteAt b 0).zeroExtend 16 <<< 8) ||| (byteAt b 1).zeroExtend 16

/-! ## Calibration decode (R102 to R104, R110) -/

/-- A little-endian 16-bit coefficient of the calibration image (R66, R103). -/
def le16 (img : List Byte) (i : Nat) : BitVec 16 :=
  (byteAt img i).zeroExtend 16 ||| ((byteAt img (i + 1)).zeroExtend 16 <<< 8)

/-- `EXT12` of R104. -/
def ext12 (ext : Config.H45Ext) (v : BitVec 12) : BitVec 16 :=
  match ext with
  | .sext12 => v.signExtend 16
  | .zext12 => v.zeroExtend 16

/-- `h4_12` of R104. -/
def h4Packed (img : List Byte) : BitVec 12 :=
  ((byteAt img 29).zeroExtend 12 <<< 4) ||| (byteAt img 30 &&& 0x0F#8).zeroExtend 12

/-- `h5_12` of R104. -/
def h5Packed (img : List Byte) : BitVec 12 :=
  ((byteAt img 31).zeroExtend 12 <<< 4) ||| (byteAt img 30 >>> 4).zeroExtend 12

/-- `DecodeA`: the fields of block 1 (R103, R110). -/
def decodeA (img : List Byte) (c : Calib) : Calib :=
  { c with
    digT1 := le16 img 0, digT2 := le16 img 2, digT3 := le16 img 4, digP1 := le16 img 6,
    digP2 := le16 img 8, digP3 := le16 img 10, digP4 := le16 img 12, digP5 := le16 img 14,
    digP6 := le16 img 16, digP7 := le16 img 18, digP8 := le16 img 20, digP9 := le16 img 22,
    digH1 := byteAt img 25 }

/-- `DecodeB`: the fields of block 2 (R103, R104, R110). -/
def decodeB (ext : Config.H45Ext) (img : List Byte) (c : Calib) : Calib :=
  { c with
    digH2 := le16 img 26, digH3 := byteAt img 28, digH4 := ext12 ext (h4Packed img),
    digH5 := ext12 ext (h5Packed img), digH6 := byteAt img 32 }

/-- The word `CALIBi` reads as (R38): unsigned fields zero-extended, signed fields sign-extended. -/
def Calib.word (c : Calib) (i : Nat) : Word :=
  match i with
  | 0 => c.digT1.zeroExtend 32
  | 1 => c.digT2.signExtend 32
  | 2 => c.digT3.signExtend 32
  | 3 => c.digP1.zeroExtend 32
  | 4 => c.digP2.signExtend 32
  | 5 => c.digP3.signExtend 32
  | 6 => c.digP4.signExtend 32
  | 7 => c.digP5.signExtend 32
  | 8 => c.digP6.signExtend 32
  | 9 => c.digP7.signExtend 32
  | 10 => c.digP8.signExtend 32
  | 11 => c.digP9.signExtend 32
  | 12 => c.digH1.zeroExtend 32
  | 13 => c.digH2.signExtend 32
  | 14 => c.digH3.zeroExtend 32
  | 15 => c.digH4.signExtend 32
  | 16 => c.digH5.signExtend 32
  | 17 => c.digH6.signExtend 32
  | _ => 0

/-! ## Profiles (R107, R145 to R147) -/

/-- One row of the profile table (R147). -/
structure Profile where
  ot : BitVec 3
  op : BitVec 3
  oh : BitVec 3
  fc : BitVec 3
  sb : BitVec 3
  md : BitVec 2
  deriving DecidableEq, Repr

/-- `PROFILE_TABLE`: the row of R147 for a profile number. Numbers 4 to 7 are the default, which equals
Weather (R145). -/
def profileRow (q : BitVec 3) : Profile :=
  match q.toNat with
  | 1 => { ot := 0b001#3, op := 0b000#3, oh := 0b001#3, fc := 0b000#3, sb := 0b101#3, md := 0b01#2 }
  | 2 => { ot := 0b010#3, op := 0b101#3, oh := 0b001#3, fc := 0b100#3, sb := 0b000#3, md := 0b11#2 }
  | 3 => { ot := 0b001#3, op := 0b011#3, oh := 0b000#3, fc := 0b100#3, sb := 0b000#3, md := 0b11#2 }
  | _ => { ot := 0b001#3, op := 0b001#3, oh := 0b001#3, fc := 0b000#3, sb := 0b101#3, md := 0b01#2 }

/-- The field that step k of a profile application updates (R143). -/
def Profile.field (p : Profile) : ProfileStep → Field
  | .osrsT => osrsTField p.ot
  | .osrsP => osrsPField p.op
  | .osrsH => osrsHField p.oh
  | .filter => filterField p.fc
  | .standby => standbyField p.sb
  | .mode => modeField p.md

/-- The step after k (R143), none after the sixth. -/
def ProfileStep.next : ProfileStep → Option ProfileStep
  | .osrsT => some .osrsP
  | .osrsP => some .osrsH
  | .osrsH => some .filter
  | .filter => some .standby
  | .standby => some .mode
  | .mode => none

end Sys2Proof.Machine
end

