-- ==== Sys2Proof/Machine/Ops.lean ====
section
/-! DEFINITION. The shared operations: the sensor register space as memory (R57, R64), acceptance of a
command (R85), issuing a transaction (R14, R16), ending a command normally (R84) or by an error (R15,
R176), and the checks of the first step (R180). -/

namespace Sys2Proof.Machine

/-! ## The sensor register space -/

/-- What an unlisted sensor register reads as: the reset value R55 gives it; 0x00 where the spec gives
none (the calibration registers, the addresses R57 says nothing about): DESIGN CHOICE, log entry 2. -/
def Memory.unlisted (a : Nat) : Byte :=
  if a = 0xD0 then 0x60#8
  else if a = 0xF7 ∨ a = 0xFA ∨ a = 0xFD then 0x80#8
  else 0x00#8

/-- Read one register. -/
def Memory.read : Memory → Nat → Byte
  | [], a => Memory.unlisted a
  | (b, v) :: rest, a => if b = a then v else Memory.read rest a

/-- The cell that lists `v` at `a`: none if an unlisted `a` reads as `v`. -/
def Memory.cell (a : Nat) (v : Byte) : Memory := if v = Memory.unlisted a then [] else [(a, v)]

/-- Set one register, keeping the canonical form. -/
def Memory.put : Memory → Nat → Byte → Memory
  | [], a, v => Memory.cell a v
  | (b, w) :: rest, a, v =>
    if a < b then Memory.cell a v ++ (b, w) :: rest
    else if a = b then Memory.cell a v ++ rest
    else (b, w) :: Memory.put rest a v

/-- The canonical form: addresses strictly rising and inside the 8-bit space (R57), no cell listing what
an unlisted address reads as. -/
abbrev Memory.wf (m : Memory) : Prop :=
  List.Pairwise (fun p q : Host.Cell => p.1 < q.1) m ∧ ∀ c ∈ m, c.1 < 256 ∧ c.2 ≠ Memory.unlisted c.1

/-- The address of byte `i` of a burst (R64). No burst of the block passes 0xFF, so the wrap never
arises. -/
def burstAddr (a : Byte) (i : Nat) : Nat := (a.toNat + i) % 256

/-! ## The running command -/

/-- Acceptance of command word `w` (R85). -/
def accept (w : Word) (s : State) : State :=
  { s with
    cmd := w.extractLsb' 0 16
    status := s.status.accepted
    seq := .start { word := w, operand := s.arg, pollCount := 0, m := 0, burst := [] } }

/-- A `CMD` write while busy is dropped and noted (R86). -/
def dropped (s : State) : State := { s with status := { s.status with overrun := true } }

/-- Put transaction `q` in flight; its answer is awaited at `pos` (R14, R16). -/
def issue (job : Job) (q : Request) (pos : Pos) (s : State) : State := { s with seq := .flight job q pos }

/-- End the command normally (R84 step 5). -/
def complete (s : State) : State := { s with status := s.status.completed, seq := .idle }

/-- TAKE AN ERROR: end the command with error `e` (R15, R176, R182). It records the error in `STATUS`
and nothing else: no register is saved, no mode changes, nothing is rolled back (R177). There is no return
from it (R183): the next acceptance clears the report. -/
def raise (e : Error) (s : State) : State := { s with status := s.status.failed e, seq := .idle }

/-- Record the failing profile step (R143), before the raise. -/
def noteStep (k : ProfileStep) (s : State) : State :=
  { s with status := { s.status with errStep := k.index } }

/-- `or fail` (R14): go on with the bytes of an `Ok`, or end the command with `TransportError`. -/
def orFail (ans : Answer) (s : State) (go : List Byte → State) : State :=
  match ans with
  | .ok bytes => go bytes
  | .err code => raise (.transport code) s

/-- The checks of the first step, in R180's order: the first that fails is the command's error. -/
def firstError (legal needsInit needsTfine : Bool) (s : State) : Option Error :=
  if !legal then some .illegalCommand
  else if needsInit && !s.status.init then some .notInitialized
  else if needsTfine && !s.status.tfv then some .tfineInvalid
  else none

/-- One step of the block for a command whose first step starts with `check` and goes on with `start`,
and whose later steps are `resume` (R84). While no command runs (R194) and while a transaction is in
flight (R8) the block makes no move. -/
def blockStep (check : Job → Option Error) (start : Job → State)
    (resume : Job → Pos → Answer → Option State) (s : State) : Result :=
  match s.seq with
  | .idle => .next s
  | .flight _ _ _ => .next s
  | .start job =>
    match check job with
    | some e => .next (raise e s)
    | none => .next (start job)
  | .ready job pos ans =>
    match resume job pos ans with
    | some t => .next t
    | none => .fault .position

end Sys2Proof.Machine
end

