-- ==== Sys2Proof/Machine/Sensor.lean ====
section
/-! DEFINITION. The sensor agent: how its registers answer transactions, and its own moves (R43 to R55,
R69 to R72, R150, R165). R63 makes it one refinement of the transport's oracle; what the spec leaves open
is a free value. -/

namespace Sys2Proof.Machine

/-- Read one register (R72: "Reads of any register have no side effect"). -/
def Sensor.reg (x : Sensor) (a : Byte) : Byte := Memory.read x.mem a.toNat

/-- Set one register. -/
def Sensor.put (x : Sensor) (a v : Byte) : Sensor := { x with mem := Memory.put x.mem a.toNat v }

/-- The power mode in `ctrl_meas[1:0]` (R48). -/
def Sensor.mode (x : Sensor) : BitVec 2 := modeBits (x.reg regCtrlMeas)

/-- A measurement is under way: `status[3]` (R47). -/
def Sensor.measuring (x : Sensor) : Bool := measuringBit (x.reg regStatus)

/-- Set `status[3]` (R47), the other status bits as they are. -/
def Sensor.setMeasuring (x : Sensor) (on : Bool) : Sensor :=
  x.put regStatus ((x.reg regStatus &&& 0xF7#8) ||| (if on then 0x08#8 else 0x00#8))

/-- Latch which quantities the measurement that starts now measures: those whose oversampling in effect is
not "skipped" (R94, R150). -/
def Sensor.latch (x : Sensor) : Sensor :=
  { x with
    liveT := (x.reg regCtrlMeas).extractLsb' 5 3 != 0
    liveP := (x.reg regCtrlMeas).extractLsb' 2 3 != 0
    liveH := x.humCtl != 0 }

/-- No source gives the effect of this mode write (R150, N10): a write during a running measurement,
other than one that stays in Normal (R135: it acts from the next measurement), or a change from Normal to
Forced. DESIGN CHOICE (log entry 24, unsafe): a measurement runs from the moment `measuring` rises, so a mode
write between a forced write and that moment is not open here; it acts on the mode bits as R72 says, a 00
cancels the pending measurement and a second 01 or 10 asks for the same one. -/
def Sensor.modeWriteOpen (x : Sensor) (v : Byte) : Bool :=
  (x.measuring && !(isNormal x.mode && isNormal (modeBits v))) || (isNormal x.mode && isForced (modeBits v))

/-- A write to `ctrl_meas` (R72): the register takes the byte and a pending `ctrl_hum` takes effect. Where
R150 leaves the effect open, the mode bits and the measurement under way are free values. -/
def Sensor.writeCtrlMeas (x : Sensor) (free : Nat) (v : Byte) : Sensor :=
  let y := { x with humCtl := (x.reg regCtrlHum).extractLsb' 0 3 }
  if x.modeWriteOpen v then
    let z := y.put regCtrlMeas ((v &&& 0xFC#8) ||| (Config.freeByte free &&& 0x03#8))
    (if Config.freeBool (free + 1) then z.latch else z).setMeasuring (Config.freeBool free)
  else y.put regCtrlMeas v

/-- The sensor's power-on or soft reset (R45, R55): every register but the non-volatile calibration
(R53) at its reset value. -/
def Sensor.powerOn (x : Sensor) : Sensor :=
  { mem := x.mem.filter fun c => (0x88 ≤ c.1 && c.1 ≤ 0xA1) || (0xE1 ≤ c.1 && c.1 ≤ 0xE7)
    humCtl := 0, liveT := false, liveP := false, liveH := false }

/-- A register write that reaches the sensor: `ctrl_hum` (R46), `ctrl_meas` (R48), `config`, which the
sensor may ignore in Normal mode (R49, R72), `reset` (R45). Every other register is read-only. -/
def Sensor.write (x : Sensor) (free : Nat) (a v : Byte) : Sensor :=
  if a = regCtrlHum then x.put regCtrlHum v
  else if a = regCtrlMeas then x.writeCtrlMeas free v
  else if a = regConfig then
    if isNormal x.mode && Config.freeBool free then x else x.put regConfig v
  else if a = regReset then
    if v = 0xB6#8 then x.powerOn else x
  else x

/-- A register write that failed or was abandoned: the register holds a free value (R134, R193), and for
`ctrl_meas` it is open whether the write acted on the measurement and on the pending `ctrl_hum`. -/
def Sensor.lostWrite (x : Sensor) (free : Nat) (a : Byte) : Sensor :=
  let y := x.put a (Config.freeByte free)
  if a = regCtrlMeas then
    let z := if Config.freeBool (free + 1) then
        { y with humCtl := (x.reg regCtrlHum).extractLsb' 0 3 }.latch
      else y
    z.setMeasuring (Config.freeBool free)
  else y

/-- A register changes for a reason outside the block. `reset` is no storage: it always reads as 0x00 (R45).
DESIGN CHOICE (log entry 25, unsafe): only that one register changes; the humidity oversampling in effect and
what the measurement under way measures stay, also when another bus master (R78, R190) wrote `ctrl_meas`. -/
def Sensor.disturb (x : Sensor) (a v : Byte) : Sensor := if a = regReset then x else x.put a v

/-- How many free values a write may draw. -/
def freePerWrite : Nat := 2

/-- The sensor starts a measurement: in Forced or Normal mode, with none under way, `measuring` rises
(R150). When it does so after a forced write is the sensor's affair (R202). -/
def Sensor.start (x : Sensor) : Sensor :=
  if x.measuring || x.mode == 0 then x else x.latch.setMeasuring true

/-- Write a 20-bit reading to three data registers (R50, R51). -/
def Sensor.putRaw20 (x : Sensor) (a : Byte) (raw : BitVec 20) : Sensor :=
  ((x.put a (raw.extractLsb' 12 8)).put (a + 1) (raw.extractLsb' 4 8)).put (a + 2)
    ((raw.extractLsb' 0 4).zeroExtend 8 <<< 4)

/-- Write a 16-bit reading to two data registers (R52). -/
def Sensor.putRaw16 (x : Sensor) (a : Byte) (raw : BitVec 16) : Sensor :=
  (x.put a (raw.extractLsb' 8 8)).put (a + 1) (raw.extractLsb' 0 8)

/-- The measurement under way ends (R150): the data registers take the readings, a skipped quantity's the
value of R101; `measuring` falls; Forced returns to Sleep. Without a measurement under way nothing
happens. -/
def Sensor.finish (x : Sensor) (rawT rawP : BitVec 20) (rawH : BitVec 16) : Sensor :=
  if x.measuring then
    let y := x.putRaw20 regTemp (if x.liveT then rawT else 0x80000#20)
    let y := y.putRaw20 regPress (if x.liveP then rawP else 0x80000#20)
    let y := y.putRaw16 regHum (if x.liveH then rawH else 0x8000#16)
    let y := y.setMeasuring false
    if isForced x.mode then y.put regCtrlMeas (x.reg regCtrlMeas &&& 0xFC#8) else y
  else x

/-- The sensor's own moves, and those of others on it. -/
def Sensor.move (x : Sensor) (m : SensorMove) : Sensor :=
  match m with
  | .start => x.start
  | .finish rawT rawP rawH => x.finish rawT rawP rawH
  | .reset => x.powerOn
  | .disturb a v => x.disturb a v

end Sys2Proof.Machine
end

