-- ==== Sys2Proof/Machine/Agents.lean ====
section
/-! DEFINITION. The host's accesses to the register window (R59 to R61, R84 to R86), the transport's
answer to the transaction in flight (R62 to R65), and the block's reset (R193). -/

namespace Sys2Proof.Machine

/-! ## The host window -/

/-- An access the interface has: an aligned 32-bit word inside the 256-byte window (R59, R60). -/
def hostAccessLegal (offset size : Nat) : Bool := size == 4 && offset % 4 == 0 && decide (offset < 256)

/-- What a host read of `offset` returns (R59, R61: reserved offsets read as 0). -/
def hostRegister (offset : Nat) (s : State) : Word :=
  if offset = 0x00 then s.cmd.zeroExtend 32
  else if offset = 0x04 then s.status.word
  else if offset = 0x08 then s.arg
  else if offset = 0x0C then s.result
  else if offset = 0x10 then s.tfine
  else if 0x20 ≤ offset ∧ offset ≤ 0x64 then s.calib.word ((offset - 0x20) / 4)
  else 0

/-- A host write (R60, R61): `CMD` issues a command, or is dropped while busy (R84, R86); `ARG` is set;
every other offset ignores it. -/
def hostStore (offset : Nat) (v : Word) (s : State) : State :=
  if offset = 0x00 then if s.status.busy then dropped s else accept v s
  else if offset = 0x08 then { s with arg := v }
  else s

/-- The host's write step; any other access is refused (R60, R197 (a)). -/
def hostWriteStep (offset size : Nat) (v : Word) (s : State) : Result :=
  if hostAccessLegal offset size then .next (hostStore offset v s)
  else .refused (.hostAccess offset size)

/-- The host's read step: no side effect in the block (R60). -/
def hostReadStep (offset size : Nat) (s : State) : Result :=
  if hostAccessLegal offset size then .next { s with hostReads := s.hostReads ++ [hostRegister offset s] }
  else .refused (.hostAccess offset size)

/-! ## The transport -/

/-- The transport's reply to the next transaction; with none given, it reaches the sensor. -/
def nextReply (s : State) : Reply := s.replies.headD (.ok [])

/-- The bytes of a read answered `Ok`: register `a + i` for byte `i` (R64), or the byte the reply gives. -/
def readBytes (bytes : List Byte) (a : Byte) (n : Nat) (x : Sensor) : List Byte :=
  (List.range n).map fun i => bytes.getD i (Memory.read x.mem (burstAddr a i))

/-- The answer a transaction gets. A failed or partial burst gives no bytes (R65). -/
def answerOf (q : Request) (r : Reply) (x : Sensor) : Answer :=
  match r, q with
  | .err code, _ => .err code
  | .ok bytes, .read a n => .ok (readBytes bytes a n x)
  | .ok _, .write _ _ => .ok []

/-- What a transaction does to the sensor: a read nothing (R72), a write its effect, a failed write an
unknown one (R134). -/
def sensorAfter (q : Request) (r : Reply) (free : Nat) (x : Sensor) : Sensor :=
  match q, r with
  | .read _ _, _ => x
  | .write a v, .ok _ => x.write free a v
  | .write a _, .err _ => x.lostWrite free a

/-- The transport answers the transaction in flight (R8, R16, R63): one answer, one entry in the record. -/
def transportStep (job : Job) (q : Request) (pos : Pos) (s : State) : State :=
  let ans := answerOf q (nextReply s) s.sensor
  { s with
    seq := .ready job pos ans
    sensor := sensorAfter q (nextReply s) s.freeCount s.sensor
    replies := s.replies.tail
    trace := s.trace ++ [⟨s.params.slaveAddr, q, ans⟩]
    freeCount := s.freeCount + freePerWrite }

/-! ## Reset -/

/-- The sensor after a block reset: a reset does not reach it (R195), but the effect of a write in flight
is unknown (R193). -/
def sensorAbandoned (s : State) : Sensor :=
  match s.seq with
  | .flight _ (.write a _) _ => s.sensor.lostWrite s.freeCount a
  | _ => s.sensor

/-- The block's reset (R193): every piece of block state takes the value of R54; a running script is
abandoned. -/
def blockReset (s : State) : State :=
  { s with
    cmd := State.reset.cmd
    arg := State.reset.arg
    result := State.reset.result
    tfine := State.reset.tfine
    status := State.reset.status
    calib := State.reset.calib
    scratch := State.reset.scratch
    seq := State.reset.seq
    sensor := sensorAbandoned s
    freeCount := s.freeCount + freePerWrite }

/-- One move of the host: an access, the end of a `wait`, or the reset input. -/
def hostStep (m : HostMove) (s : State) : Result :=
  match m with
  | .write offset size v => hostWriteStep offset size v s
  | .read offset size => hostReadStep offset size s
  | .wait => .next s
  | .reset => .next (blockReset s)

end Sys2Proof.Machine
end

