-- ==== Sys2Proof/Machine/Compensation.lean ====
section
/-! DEFINITION. The compensation engine (R108 to R121) and the commands COMP_T, COMP_P and COMP_H (R122
to R124). A bit vector of the formula's width W is R108's arithmetic: `+`, `-`, `*` and `<<` wrap to W
bits, `sshiftRight` is the arithmetic right shift, `sdiv` truncates toward zero. Operations stand in the order and grouping the rules write. -/

namespace Sys2Proof.Machine

/-- `CompT` (R111), width 32: the temperature and `t_fine`. -/
def compT (adcT : BitVec 20) (c : Calib) : Word × Word :=
  let adc : Word := adcT.zeroExtend 32
  let t1 : Word := c.digT1.zeroExtend 32
  let t2 : Word := c.digT2.signExtend 32
  let t3 : Word := c.digT3.signExtend 32
  let var1 := ((adc.sshiftRight 3 - (t1 <<< 1)) * t2).sshiftRight 11
  let var2 := ((((adc.sshiftRight 4 - t1) * (adc.sshiftRight 4 - t1)).sshiftRight 12) * t3).sshiftRight 14
  let tFine := var1 + var2
  ((tFine * 5#32 + 128#32).sshiftRight 8, tFine)

/-- The first-stage denominator of `CompP` (R113, R114), width 64. -/
def pressDenominator (tFine : Word) (c : Calib) : BitVec 64 :=
  let p1 : BitVec 64 := c.digP1.zeroExtend 64
  let p2 : BitVec 64 := c.digP2.signExtend 64
  let p3 : BitVec 64 := c.digP3.signExtend 64
  let var1 := tFine.signExtend 64 - 128000#64
  let var1 := (var1 * var1 * p3).sshiftRight 8 + ((var1 * p2) <<< 12)
  (((1#64 <<< 47) + var1) * p1).sshiftRight 33

/-- The first-stage `var2` of `CompP` (R113), width 64. -/
def pressOffset (tFine : Word) (c : Calib) : BitVec 64 :=
  let p4 : BitVec 64 := c.digP4.signExtend 64
  let p5 : BitVec 64 := c.digP5.signExtend 64
  let p6 : BitVec 64 := c.digP6.signExtend 64
  let var1 := tFine.signExtend 64 - 128000#64
  let var2 := var1 * var1 * p6
  let var2 := var2 + ((var1 * p5) <<< 17)
  var2 + (p4 <<< 35)

/-- `CompP` after the guard (R113), width 64, before `trunc_u32`. -/
def pressQuotient (adcP : BitVec 20) (den var2 : BitVec 64) (c : Calib) : BitVec 64 :=
  let p7 : BitVec 64 := c.digP7.signExtend 64
  let p8 : BitVec 64 := c.digP8.signExtend 64
  let p9 : BitVec 64 := c.digP9.signExtend 64
  let p := 1048576#64 - adcP.zeroExtend 64
  let p := (((p <<< 31) - var2) * 3125#64).sdiv den
  let var1 := (p9 * p.sshiftRight 13 * p.sshiftRight 13).sshiftRight 25
  let var2 := (p8 * p).sshiftRight 19
  (p + var1 + var2).sshiftRight 8 + (p7 <<< 4)

/-- `CompP` (R113): the pressure and whether the guard of R114 fired. -/
def compP (adcP : BitVec 20) (tFine : Word) (c : Calib) : Word × Bool :=
  let den := pressDenominator tFine c
  if den = 0 then (0, true)
  else ((pressQuotient adcP den (pressOffset tFine c) c).truncate 32, false)

/-- The intermediate of `CompH` before the clamp (R116), width 32. A constant summand stands first: wrapping
addition does not mind, and no evaluation then counts the constant down. -/
def humRaw (adcH : BitVec 16) (tFine : Word) (c : Calib) : Word :=
  let adc : Word := adcH.zeroExtend 32
  let h1 : Word := c.digH1.zeroExtend 32
  let h2 : Word := c.digH2.signExtend 32
  let h3 : Word := c.digH3.zeroExtend 32
  let h4 : Word := c.digH4.signExtend 32
  let h5 : Word := c.digH5.signExtend 32
  let h6 : Word := c.digH6.signExtend 32
  let v := tFine - 76800#32
  let v := (16384#32 + ((adc <<< 14) - (h4 <<< 20) - (h5 * v))).sshiftRight 15 *
    ((8192#32 + (2097152#32 + ((v * h6).sshiftRight 10 *
      (32768#32 + (v * h3).sshiftRight 11)).sshiftRight 10) * h2).sshiftRight 14)
  v - ((((v.sshiftRight 15 * v.sshiftRight 15).sshiftRight 7) * h1).sshiftRight 4)

/-- The clamp of R117 to [0, 419430400]. A value below 0 has its top bit set; what is left is at least 0, so
the second comparison of signed values is the comparison of bit patterns. -/
def humClamp (v : Word) : Word :=
  let v := if v.msb then 0#32 else v
  if 419430400#32 < v then 419430400#32 else v

/-- `CompH` (R116). -/
def compH (adcH : BitVec 16) (tFine : Word) (c : Calib) : Word :=
  (humClamp (humRaw adcH tFine c)).sshiftRight 12

/-- A temperature compensation writes `TFINE` and sets `TFV` (R32, R121, R122). -/
def storeTFine (tFine : Word) (s : State) : State :=
  { s with tfine := tFine, status := { s.status with tfv := true } }

/-- A result register write (R26). -/
def storeResult (r : Word) (s : State) : State := { s with result := r }

/-- A pressure compensation writes `RESULT` and `PGUARD` (R33, R123). -/
def storePressure (r : Word × Bool) (s : State) : State :=
  { s with result := r.1, status := { s.status with pguard := r.2 } }

/-- The body of COMP_T (R122). -/
def runCompT (adc : BitVec 20) (s : State) : State :=
  complete (storeResult (compT adc s.calib).1 (storeTFine (compT adc s.calib).2 s))

/-- The body of COMP_P (R123). -/
def runCompP (adc : BitVec 20) (s : State) : State :=
  complete (storePressure (compP adc s.tfine s.calib) s)

/-- The body of COMP_H (R124). -/
def runCompH (adc : BitVec 16) (s : State) : State :=
  complete (storeResult (compH adc s.tfine s.calib) s)

/-- COMP_T (R122): no transaction, one block step. -/
def execCompT (s : State) : Result :=
  blockStep (fun job => firstError (operand20Legal job.operand) true false s)
    (fun job => runCompT (operand20 job.operand) s) (fun _ _ _ => none) s

/-- COMP_P (R123). -/
def execCompP (s : State) : Result :=
  blockStep (fun job => firstError (operand20Legal job.operand) true true s)
    (fun job => runCompP (operand20 job.operand) s) (fun _ _ _ => none) s

/-- COMP_H (R124). -/
def execCompH (s : State) : Result :=
  blockStep (fun job => firstError (operand16Legal job.operand) true true s)
    (fun job => runCompH (operand16 job.operand) s) (fun _ _ _ => none) s

end Sys2Proof.Machine
end

