-- ==== Sys2Proof/Machine/Configuration.lean ====
section
/-! DEFINITION. The configuration and mode controller (41_configuration.md): the setters, GET_MODE and
profile application. -/

namespace Sys2Proof.Machine

/-! ## Read-modify-write of one field (R134) -/

/-- The read half of `UpdateField`. -/
def startField (f : Field) (pos : Pos) (job : Job) (s : State) : State := issue job (.read f.addr 1) pos s

/-- The write half of `UpdateField`, once the register read as `r`. -/
def writeField (f : Field) (r : Byte) (pos : Pos) (job : Job) (s : State) : State :=
  issue job (.write f.addr (f.merge r)) pos s

/-- The later steps of a setter: write on the answered read, end on the answered write. A failed read
attempts no write (R134). -/
def resumeSetter (f : Field) (s : State) (job : Job) (pos : Pos) (ans : Answer) : Option State :=
  match pos with
  | .rmwRead => some (orFail ans s fun bytes => writeField f (byteAt bytes 0) .rmwWrite job s)
  | .rmwWrite => some (orFail ans s fun _ => complete s)
  | _ => none

/-- One block step of a setter (R134 to R140). -/
def setterStep (named arg : Byte) (f : Field) (s : State) : Result :=
  blockStep (fun _ => firstError (argLegal named arg) true false s)
    (fun job => startField f .rmwRead job s) (resumeSetter f s) s

/-- SET_OSRS_T (R135). -/
def execSetOsrsT (arg : Byte) (s : State) : Result := setterStep 0x07#8 arg (osrsTField (code3 arg)) s

/-- SET_OSRS_P (R136). -/
def execSetOsrsP (arg : Byte) (s : State) : Result := setterStep 0x07#8 arg (osrsPField (code3 arg)) s

/-- SET_OSRS_H (R137). -/
def execSetOsrsH (arg : Byte) (s : State) : Result := setterStep 0x07#8 arg (osrsHField (code3 arg)) s

/-- SET_FILTER (R138). -/
def execSetFilter (arg : Byte) (s : State) : Result := setterStep 0x07#8 arg (filterField (code3 arg)) s

/-- SET_STANDBY (R139). -/
def execSetStandby (arg : Byte) (s : State) : Result := setterStep 0x07#8 arg (standbyField (code3 arg)) s

/-- SET_MODE (R140). -/
def execSetMode (arg : Byte) (s : State) : Result := setterStep 0x03#8 arg (modeField (code2 arg)) s

/-! ## GET_MODE (R141) -/

/-- GET_MODE's end: `RESULT` is the mode field, zero-extended (R106). -/
def storeMode (m : Byte) (s : State) : State :=
  complete { s with result := (modeBits m).zeroExtend 32 }

/-- The later step of GET_MODE. -/
def resumeGetMode (s : State) (job : Job) (pos : Pos) (ans : Answer) : Option State :=
  match pos with
  | .mode => some (orFail ans s fun bytes =>
      let job := { job with m := byteAt bytes 0 }
      storeMode job.m s)
  | _ => none

/-- GET_MODE (R141). -/
def execGetMode (s : State) : Result :=
  blockStep (fun _ => firstError true true false s)
    (fun job => issue job (.read regCtrlMeas 1) .mode s) (resumeGetMode s) s

/-! ## Profiles (R142, R143) -/

/-- Start step k of a profile application with its read. -/
def startProfileStep (p : Profile) (k : ProfileStep) (job : Job) (s : State) : State :=
  startField (p.field k) (.profRead k) job s

/-- `or fail` inside profile step k: `ERR_STEP` is noted first (R143). -/
def orFailAt (k : ProfileStep) (ans : Answer) (s : State) (go : List Byte → State) : State :=
  match ans with
  | .ok bytes => go bytes
  | .err code => raise (.transport code) (noteStep k s)

/-- After step k: the next step, or the end of the command after the sixth. -/
def afterProfileStep (p : Profile) (k : ProfileStep) (job : Job) (s : State) : State :=
  match k.next with
  | some k' => startProfileStep p k' job s
  | none => complete s

/-- The later steps of `ApplyProfile` (R143). -/
def resumeProfile (p : Profile) (s : State) (job : Job) (pos : Pos) (ans : Answer) : Option State :=
  match pos with
  | .profRead k =>
    some (orFailAt k ans s fun bytes => writeField (p.field k) (byteAt bytes 0) (.profWrite k) job s)
  | .profWrite k => some (orFailAt k ans s fun _ => afterProfileStep p k job s)
  | _ => none

/-- APPLY_PROFILE (R142). -/
def execApplyProfile (arg : Byte) (s : State) : Result :=
  blockStep (fun _ => firstError (argLegal 0x07#8 arg) true false s)
    (fun job => startProfileStep (profileRow (code3 arg)) .osrsT job s)
    (resumeProfile (profileRow (code3 arg)) s) s

end Sys2Proof.Machine
end

