-- ==== Sys2Proof/Machine/Session.lean ====
section
/-! DEFINITION. The session (42_session.md): INIT, the measurement sequence and GET_T, GET_P, GET_H. -/

namespace Sys2Proof.Machine

/-! ## INIT (R152 to R155) -/

/-- INIT's first step: invalidate the session, read the identifier (R153). -/
def startInit (job : Job) (s : State) : State :=
  issue job (.read regId 1) .id { s with status := s.status.sessionCleared }

/-- Zero the scratch buffer (R154). -/
def zeroScratch (s : State) : State := { s with scratch := List.replicate 33 0 }

/-- The identifier has been read: stop on a mismatch, else read block A (R152). -/
def checkId (id : Byte) (job : Job) (s : State) : State :=
  if id = s.params.chipId then issue job (.read regCalA 26) .calA s else raise .notInitialized s

/-- Block A has been read: buffer it, decode its fields, read block B (R154). -/
def takeBlockA (bytes : List Byte) (job : Job) (s : State) : State :=
  let img := putBytes s.scratch 0 bytes
  issue { job with burst := bytes } (.read regCalB 7) .calB
    { s with scratch := img, calib := decodeA img s.calib }

/-- Block B has been read: buffer it, decode its fields, zero the buffer (R154). -/
def takeBlockB (bytes : List Byte) (s : State) : State :=
  zeroScratch { s with calib := decodeB s.params.h45Ext (putBytes s.scratch 26 bytes) s.calib }

/-- The session is initialised and the default profile, Weather, begins (R153). -/
def openSession (job : Job) (s : State) : State :=
  startProfileStep (profileRow 0) .osrsT job { s with status := s.status.sessionReady }

/-- A calibration burst's failure: zero the buffer, then raise (R154). -/
def orFailZeroed (ans : Answer) (s : State) (go : List Byte → State) : State :=
  match ans with
  | .ok bytes => go bytes
  | .err code => raise (.transport code) (zeroScratch s)

/-- The later steps of INIT (R153). -/
def resumeInit (s : State) (job : Job) (pos : Pos) (ans : Answer) : Option State :=
  match pos with
  | .id => some (orFail ans s fun bytes => checkId (byteAt bytes 0) job s)
  | .calA => some (orFailZeroed ans s fun bytes => takeBlockA bytes job s)
  | .calB => some (orFailZeroed ans s fun bytes =>
      openSession { job with burst := bytes } (takeBlockB bytes s))
  | _ => resumeProfile (profileRow 0) s job pos ans

/-- INIT (R153). It has no `INIT` = 1 precondition. -/
def execInit (s : State) : Result :=
  blockStep (fun _ => firstError true false false s) (fun job => startInit job s) (resumeInit s) s

/-! ## The measurement sequence (R156 to R159) -/

/-- The head of the poll loop (R158): `Timeout` at the bound, else one more status read. -/
def pollLoop (job : Job) (s : State) : State :=
  if s.params.pollLimit = some job.pollCount then raise .timeout s
  else issue job (.read regStatus 1) .poll s

/-- The poll begins (R158). -/
def startPoll (job : Job) (s : State) : State := pollLoop { job with pollCount := 0 } s

/-- The mode has been read: in Normal go on to the poll, else force a measurement (R157). -/
def forceMode (m : Byte) (job : Job) (s : State) : State :=
  let job := { job with m := m }
  if isNormal (modeBits job.m) then startPoll job s
  else issue job (.write regCtrlMeas (forcedByte job.m)) .forced s

/-- One status byte has been read: leave the loop and read the temperature block, or poll again (R158,
R160). -/
def takeStatus (st : Byte) (job : Job) (s : State) : State :=
  let job := { job with pollCount := job.pollCount + 1 }
  if measuringBit st then pollLoop job s else issue job (.read regTemp 3) .temp s

/-- The later steps of `MeasurePrep` (R156 to R158), up to the temperature burst. -/
def resumePrep (s : State) (job : Job) (pos : Pos) (ans : Answer) : Option State :=
  match pos with
  | .mode => some (orFail ans s fun bytes => forceMode (byteAt bytes 0) job s)
  | .forced => some (orFail ans s fun _ => startPoll job s)
  | .poll => some (orFail ans s fun bytes => takeStatus (byteAt bytes 0) job s)
  | _ => none

/-- One block step of a measurement command: the checks and the mode read (R151, R156), then `resume`. -/
def measureStep (resume : Job → Pos → Answer → Option State) (s : State) : Result :=
  blockStep (fun _ => firstError true true false s)
    (fun job => issue job (.read regCtrlMeas 1) .mode s) resume s

/-- The temperature burst has been read: buffer it, compensate, write `TFINE` (R160 to R162). -/
def takeTemp (bytes : List Byte) (s : State) : State :=
  storeTFine (compT (adc20 bytes) s.calib).2 { s with scratch := putBytes s.scratch 0 bytes }

/-- GET_T's end (R160). -/
def finishT (bytes : List Byte) (s : State) : State :=
  complete (storeResult (compT (adc20 bytes) s.calib).1 (takeTemp bytes s))

/-- GET_P's end (R161). `tf` is in `TFINE`: this command wrote it there in its previous block step. -/
def finishP (bytes : List Byte) (s : State) : State :=
  complete (storePressure (compP (adc20 bytes) s.tfine s.calib)
    { s with scratch := putBytes s.scratch 3 bytes })

/-- GET_H's end (R162). -/
def finishH (bytes : List Byte) (s : State) : State :=
  complete (storeResult (compH (adc16 bytes) s.tfine s.calib)
    { s with scratch := putBytes s.scratch 3 bytes })

/-- The later steps of GET_T (R160). -/
def resumeGetT (s : State) (job : Job) (pos : Pos) (ans : Answer) : Option State :=
  match pos with
  | .temp => some (orFail ans s fun bytes =>
      let job := { job with burst := bytes }
      finishT job.burst s)
  | _ => resumePrep s job pos ans

/-- The later steps of GET_P (R161): the temperature first, then the pressure burst. -/
def resumeGetP (s : State) (job : Job) (pos : Pos) (ans : Answer) : Option State :=
  match pos with
  | .temp => some (orFail ans s fun bytes =>
      let job := { job with burst := bytes }
      issue job (.read regPress 3) .press (takeTemp job.burst s))
  | .press => some (orFail ans s fun bytes =>
      let job := { job with burst := bytes }
      finishP job.burst s)
  | _ => resumePrep s job pos ans

/-- The later steps of GET_H (R162): the temperature first, then the humidity burst. -/
def resumeGetH (s : State) (job : Job) (pos : Pos) (ans : Answer) : Option State :=
  match pos with
  | .temp => some (orFail ans s fun bytes =>
      let job := { job with burst := bytes }
      issue job (.read regHum 2) .hum (takeTemp job.burst s))
  | .hum => some (orFail ans s fun bytes =>
      let job := { job with burst := bytes }
      finishH job.burst s)
  | _ => resumePrep s job pos ans

/-- GET_T (R160). -/
def execGetT (s : State) : Result := measureStep (resumeGetT s) s

/-- GET_P (R161). -/
def execGetP (s : State) : Result := measureStep (resumeGetP s) s

/-- GET_H (R162). -/
def execGetH (s : State) : Result := measureStep (resumeGetH s) s

end Sys2Proof.Machine
end

