-- ==== Sys2Proof/Machine/Dispatch.lean ====
section
/-! DEFINITION. One arm per command: the block agent's next step in that command's script. -/

namespace Sys2Proof.Machine

def exec (i : Instr) (s : State) : Host.Outcome State Fault Refusal :=
  match i with
  | .init => Sys2Proof.Machine.execInit s
  | .getT => Sys2Proof.Machine.execGetT s
  | .getP => Sys2Proof.Machine.execGetP s
  | .getH => Sys2Proof.Machine.execGetH s
  | .compT => Sys2Proof.Machine.execCompT s
  | .compP => Sys2Proof.Machine.execCompP s
  | .compH => Sys2Proof.Machine.execCompH s
  | .setOsrsT arg => Sys2Proof.Machine.execSetOsrsT arg s
  | .setOsrsP arg => Sys2Proof.Machine.execSetOsrsP arg s
  | .setOsrsH arg => Sys2Proof.Machine.execSetOsrsH arg s
  | .setFilter arg => Sys2Proof.Machine.execSetFilter arg s
  | .setStandby arg => Sys2Proof.Machine.execSetStandby arg s
  | .setMode arg => Sys2Proof.Machine.execSetMode arg s
  | .getMode => Sys2Proof.Machine.execGetMode s
  | .applyProfile arg => Sys2Proof.Machine.execApplyProfile arg s

end Sys2Proof.Machine
end

