-- ==== Sys2Proof/Machine/Schedule.lean ====
section
/-! DEFINITION. Which of the three agents moves next (R7, R8, R16), and the step each takes. The host and the
sensor move when the next input says so; otherwise the running script does: the transport answers the
transaction in flight, or the block takes its next step (log entry 5). -/

namespace Sys2Proof.Machine

/-! ## Who moves -/

/-- The agent whose turn it is in the running script (R8, R16): the transport while a transaction is in flight,
else the block. -/
def turn (s : State) : Agent :=
  match s.seq with
  | .flight _ _ _ => .transport
  | .idle | .start _ | .ready _ _ _ => .block

/-- The agent that takes the machine's next step. A `wait` holds the host back until `BUSY` = 0 (R91): its status
reads have no side effect (R60). -/
def mover (s : State) : Agent :=
  match s.inputs with
  | [] => turn s
  | .pass :: _ => turn s
  | .host m :: _ => if m = .wait ∧ s.status.busy = true then turn s else .host
  | .sensor _ :: _ => .transport

/-- The state once a `pass`, if one comes next, has been taken. -/
def takePass (s : State) : State :=
  match s.inputs with
  | .pass :: rest => { s with inputs := rest }
  | [] | .host _ :: _ | .sensor _ :: _ => s

/-! ## What each agent does -/

/-- The host's step: its next move. -/
def hostTurn (s : State) : Result :=
  match s.inputs with
  | .host m :: rest => hostStep m { s with inputs := rest }
  | [] | .pass :: _ | .sensor _ :: _ => .next s

/-- The block's next step for the running command word: the decoded command's, or, for an illegal word,
the end with `IllegalCommand` (R81, R87, R88, R179). -/
def blockMove (word : Word) (s : State) : Result :=
  match decode word with
  | .ok i => exec i s
  | .error _ => .next (raise .illegalCommand s)

/-- The block's step. An idle block waits (R194). -/
def blockTurn (s : State) : Result :=
  match s.seq with
  | .start job => blockMove job.word s
  | .ready job _ _ => blockMove job.word s
  | .idle | .flight _ _ _ => .next s

/-- The transport answers the transaction in flight. -/
def answerTurn (s : State) : Result :=
  match s.seq with
  | .flight job q pos => .next (transportStep job q pos s)
  | .idle | .start _ | .ready _ _ _ => .next s

/-- The step of the transport and the sensor: the sensor's own move, or the answer. -/
def transportTurn (s : State) : Result :=
  match s.inputs with
  | .sensor m :: rest => .next { s with inputs := rest, sensor := s.sensor.move m }
  | [] | .pass :: _ | .host _ :: _ => answerTurn (takePass s)

/-- One step of an agent. -/
def agentStep (a : Agent) (s : State) : Result :=
  match a with
  | .host => hostTurn s
  | .block => blockTurn (takePass s)
  | .transport => transportTurn s

/-- One step of the machine: the step of the agent that moves. -/
def machineStep (s : State) : Result := agentStep (mover s) s

end Sys2Proof.Machine
end

