-- ==== Sys2Proof/Machine/Step.lean ====
section
/-! DEFINITION. The step function, and how the host of this pipeline places a command. -/

namespace Sys2Proof.Machine

/-- One step of the machine. -/
def step (s : State) : Host.Outcome State Fault Refusal := machineStep s

/-- The block with the command word `w` just accepted (R85), and the next move the block's: the very next
step is the first step of that command's script. The block has no instruction memory (R22): this stands for
the host's write to `CMD` (log entry 1). -/
def State.withFetchWord (s : State) (nbits w : Nat) : State :=
  { accept (BitVec.ofNat 32 (w % 2 ^ nbits)) s with inputs := .pass :: s.inputs }

end Sys2Proof.Machine
end

