-- ==== Sys2Proof/Safety.lean ====
section
/-! DEFINITION. The terms claims are stated in: the rules' integer arithmetic (R11, R12), the allowed bus
transactions (R58), the tables of R135 to R143 by number, and the invariant of the machine. -/

namespace Sys2Proof.Safety

open Sys2Proof.Machine

/-! ## R11, R12: the rules' integer arithmetic -/

/-- `wrap_N(v)` (R11). -/
def wrap (n : Nat) (v : Int) : Int := (v + 2 ^ (n - 1)) % 2 ^ n - 2 ^ (n - 1)

/-- `a >> k`: floor(a / 2^k) (R12). -/
def asr (v : Int) (k : Nat) : Int := v / 2 ^ k

/-- `a << k` in a formula of width n (R12). -/
def shl (n : Nat) (v : Int) (k : Nat) : Int := wrap n (v * 2 ^ k)

/-- `a + b` in a formula of width n (R108 (b)). -/
def add (n : Nat) (a b : Int) : Int := wrap n (a + b)

/-- `a - b` in a formula of width n (R108 (b)). -/
def sub (n : Nat) (a b : Int) : Int := wrap n (a - b)

/-- `a * b` in a formula of width n (R108 (b)). -/
def mul (n : Nat) (a b : Int) : Int := wrap n (a * b)

/-- `a / b` in a formula of width n: truncated toward zero, then wrapped (R108 (d)). -/
def quo (n : Nat) (a b : Int) : Int := wrap n (a.tdiv b)

/-- R111 line by line over the integers: `(T, t_fine)`. -/
def tempRule (adc t1 t2 t3 : Int) : Int × Int :=
  let var1 := asr (mul 32 (sub 32 (asr adc 3) (shl 32 t1 1)) t2) 11
  let d := sub 32 (asr adc 4) t1
  let var2 := asr (mul 32 (asr (mul 32 d d) 12) t3) 14
  let tFine := add 32 var1 var2
  (asr (add 32 (mul 32 tFine 5) 128) 8, tFine)

/-- R113's first-stage denominator over the integers. -/
def pressDenominatorRule (tFine p1 p2 p3 : Int) : Int :=
  let var1 := sub 64 tFine 128000
  let var1 := add 64 (asr (mul 64 (mul 64 var1 var1) p3) 8) (shl 64 (mul 64 var1 p2) 12)
  asr (mul 64 (add 64 (shl 64 1 47) var1) p1) 33

/-- R113 line by line over the integers, with R114's guard: the 64-bit p before `trunc_u32`, or `none` for
the guard. -/
def pressRule (adc tFine p1 p2 p3 p4 p5 p6 p7 p8 p9 : Int) : Option Int :=
  let var1 := sub 64 tFine 128000
  let var2 := mul 64 (mul 64 var1 var1) p6
  let var2 := add 64 var2 (shl 64 (mul 64 var1 p5) 17)
  let var2 := add 64 var2 (shl 64 p4 35)
  let den := pressDenominatorRule tFine p1 p2 p3
  if den = 0 then none
  else
    let p := sub 64 1048576 adc
    let p := quo 64 (mul 64 (sub 64 (shl 64 p 31) var2) 3125) den
    let var1 := asr (mul 64 (mul 64 p9 (asr p 13)) (asr p 13)) 25
    let var2 := asr (mul 64 p8 p) 19
    some (add 64 (asr (add 64 (add 64 p var1) var2) 8) (shl 64 p7 4))

/-- R116 line by line over the integers, with R117's clamp. -/
def humRule (adc tFine h1 h2 h3 h4 h5 h6 : Int) : Int :=
  let v := sub 32 tFine 76800
  let a := asr (add 32 (sub 32 (sub 32 (shl 32 adc 14) (shl 32 h4 20)) (mul 32 h5 v)) 16384) 15
  let b := mul 32 (asr (mul 32 v h6) 10) (add 32 (asr (mul 32 v h3) 11) 32768)
  let b := asr (add 32 (mul 32 (add 32 (asr b 10) 2097152) h2) 8192) 14
  let v := mul 32 a b
  let v := sub 32 v (asr (mul 32 (asr (mul 32 (asr v 15) (asr v 15)) 7) h1) 4)
  let v := if v < 0 then 0 else v
  let v := if v > 419430400 then 419430400 else v
  asr v 12

/-! ## The physical values of `RESULT` (R119) -/

/-- Degrees Celsius: the signed `RESULT` in units of 0.01 (R112). -/
def celsius (r : Word) : Rat := r.toInt / 100

/-- Pascals: the unsigned `RESULT` in Q24.8 (R115). -/
def pascals (r : Word) : Rat := r.toNat / 256

/-- Percent relative humidity: the unsigned `RESULT` in Q22.10 (R118). -/
def percentRH (r : Word) : Rat := r.toNat / 1024

/-- The calibration set CAL of 95_test_vectors.md section 1. -/
def calExample : Calib :=
  { digT1 := 27504, digT2 := 26435, digT3 := 0xFC18, digP1 := 36477, digP2 := 0xD643, digP3 := 3024,
    digP4 := 2855, digP5 := 140, digP6 := 0xFFF9, digP7 := 15500, digP8 := 0xC6F8, digP9 := 6000,
    digH1 := 75, digH2 := 370, digH3 := 0, digH4 := 313, digH5 := 50, digH6 := 30 }

/-! ## R135 to R143 by number -/

/-- What a setter updates: register, mask and value, as R135 to R140 print them. -/
def setterRow : Instr → Option (Byte × Byte × Byte)
  | .setOsrsT a => some (0xF4#8, 0xE0#8, (a &&& 7#8) <<< 5)
  | .setOsrsP a => some (0xF4#8, 0x1C#8, (a &&& 7#8) <<< 2)
  | .setOsrsH a => some (0xF2#8, 0x07#8, a &&& 7#8)
  | .setFilter a => some (0xF5#8, 0x1C#8, (a &&& 7#8) <<< 2)
  | .setStandby a => some (0xF5#8, 0xE0#8, (a &&& 7#8) <<< 5)
  | .setMode a => some (0xF4#8, 0x03#8, a &&& 3#8)
  | .init | .getT | .getP | .getH | .compT | .compP | .compH | .getMode | .applyProfile _ => none

/-- What step k of a profile application updates, as R143 prints it. -/
def profileStepRow (p : Profile) : ProfileStep → Byte × Byte × Byte
  | .osrsT => (0xF4#8, 0xE0#8, p.ot.zeroExtend 8 <<< 5)
  | .osrsP => (0xF4#8, 0x1C#8, p.op.zeroExtend 8 <<< 2)
  | .osrsH => (0xF2#8, 0x07#8, p.oh.zeroExtend 8)
  | .filter => (0xF5#8, 0x1C#8, p.fc.zeroExtend 8 <<< 2)
  | .standby => (0xF5#8, 0xE0#8, p.sb.zeroExtend 8 <<< 5)
  | .mode => (0xF4#8, 0x03#8, p.md.zeroExtend 8)

/-- The profile a command applies: the argument's for APPLY_PROFILE (R142), Weather for INIT (R153). -/
def profileOf : Instr → Option Profile
  | .applyProfile a => some (profileRow (a.extractLsb' 0 3))
  | .init => some (profileRow 0)
  | .getT | .getP | .getH | .compT | .compP | .compH | .setOsrsT _ | .setOsrsP _ | .setOsrsH _
  | .setFilter _ | .setStandby _ | .setMode _ | .getMode => none

/-- The three measurement commands (R151). -/
def Measures (i : Instr) : Prop := i = .getT ∨ i = .getP ∨ i = .getH

/-! ## Whose turn it is -/

/-- No host access and no sensor move comes first, so the running script moves, from `u`: no input waits, a `pass`
is taken, or a `wait` goes on while the block is busy (log entry 5). -/
def MovesFrom (s u : State) : Prop :=
  (s.inputs = [] ∧ u = s) ∨
  (∃ rest, s.inputs = .pass :: rest ∧ u = { s with inputs := rest }) ∨
  (∃ rest, s.inputs = .host .wait :: rest ∧ s.status.busy = true ∧ u = s)

/-! ## Scripts and bus traffic -/

/-- The transactions of R58: five single reads, two calibration bursts, three raw bursts, three
writes. -/
def allowed : Request → Bool
  | .read a n =>
    [(0xD0#8, 1), (0xF2#8, 1), (0xF3#8, 1), (0xF4#8, 1), (0xF5#8, 1), (0x88#8, 26), (0xE1#8, 7),
      (0xFA#8, 3), (0xF7#8, 3), (0xFD#8, 2)].contains (a, n)
  | .write a _ => [0xF2#8, 0xF4#8, 0xF5#8].contains a

/-- How many bytes the transaction of a position brings: 0 for a write. -/
def bytesAt : Pos → Nat
  | .id => 1
  | .calA => 26
  | .calB => 7
  | .rmwRead => 1
  | .rmwWrite => 0
  | .profRead _ => 1
  | .profWrite _ => 0
  | .mode => 1
  | .forced => 0
  | .poll => 1
  | .temp => 3
  | .press => 3
  | .hum => 2

/-- How many bytes a transaction asks for. -/
def bytesOf : Request → Nat
  | .read _ n => n
  | .write _ _ => 0

/-- The positions a command's script has. -/
def scriptHas : Instr → Pos → Bool
  | .init, .id | .init, .calA | .init, .calB | .init, .profRead _ | .init, .profWrite _ => true
  | .getT, .mode | .getT, .forced | .getT, .poll | .getT, .temp => true
  | .getP, .mode | .getP, .forced | .getP, .poll | .getP, .temp | .getP, .press => true
  | .getH, .mode | .getH, .forced | .getH, .poll | .getH, .temp | .getH, .hum => true
  | .setOsrsT _, .rmwRead | .setOsrsT _, .rmwWrite | .setOsrsP _, .rmwRead | .setOsrsP _, .rmwWrite => true
  | .setOsrsH _, .rmwRead | .setOsrsH _, .rmwWrite | .setFilter _, .rmwRead | .setFilter _, .rmwWrite => true
  | .setStandby _, .rmwRead | .setStandby _, .rmwWrite | .setMode _, .rmwRead | .setMode _, .rmwWrite => true
  | .getMode, .mode => true
  | .applyProfile _, .profRead _ | .applyProfile _, .profWrite _ => true
  | _, _ => false

/-- The profile step a position belongs to. -/
def profileStepAt : Pos → Option ProfileStep
  | .profRead k => some k
  | .profWrite k => some k
  | _ => none

/-- `STATUS.INIT` while a script is at `pos`: INIT has cleared it until the calibration is read (R153),
every other command found it set (R180). -/
def initAt (i : Instr) (pos : Pos) : Bool :=
  !(i == .init && (pos == .id || pos == .calA || pos == .calB))

/-- The running command is at a position of its own script (R22). -/
def InScript (s : State) (job : Job) (pos : Pos) : Prop :=
  s.cmd = job.word.extractLsb' 0 16 ∧
    ∃ i, decode job.word = .ok i ∧ scriptHas i pos = true ∧ s.status.init = initAt i pos

/-- The poll has room for another status read (R158). -/
def PollRoom (s : State) (job : Job) (pos : Pos) : Prop :=
  pos = .poll → ∀ limit, s.params.pollLimit = some limit → job.pollCount < limit

/-- What the sequencer may hold. -/
def SeqOk (s : State) : Prop :=
  match s.seq with
  | .idle => True
  | .start job => s.cmd = job.word.extractLsb' 0 16
  | .flight job q pos =>
    InScript s job pos ∧ PollRoom s job pos ∧ bytesOf q = bytesAt pos ∧ allowed q = true
  | .ready job pos ans =>
    InScript s job pos ∧ PollRoom s job pos ∧ ∀ bytes, ans = .ok bytes → bytes.length = bytesAt pos

/-- The invariant of the machine. -/
structure Consistent (s : State) : Prop where
  /-- The sensor register space is in canonical form. -/
  memWf : Memory.wf s.sensor.mem
  /-- `scratch` is 33 bytes (R40). -/
  scratchLen : s.scratch.length = 33
  /-- `BUSY` = 0 exactly when `SEQ` = Idle (R29, R41). -/
  busySeq : s.status.busy = true ↔ s.seq ≠ .idle
  /-- `CALV` = 1 exactly when `INIT` = 1 (R31). -/
  calvInit : s.status.calv = s.status.init
  /-- No valid `t_fine` outside a session (R32, R163). -/
  tfvInit : s.status.tfv = true → s.status.init = true
  /-- Error codes 6 to 15 are never produced (R173). -/
  errRange : s.status.err.toNat ≤ 5
  /-- `ERR_STEP` is 0 or a step index (R36). -/
  stepRange : s.status.errStep.toNat ≤ 6
  /-- While a command runs the report is clear (R35, R85). -/
  busyClear : s.status.busy = true →
    s.status.err = 0 ∧ s.status.errStep = 0 ∧ s.status.errTcode = 0 ∧ s.status.pguard = false
  /-- `ERR_STEP` is 0 unless the command ended with `TransportError` (R36). -/
  stepErr : s.status.errStep ≠ 0 → s.status.err = 1
  /-- `ERR_TCODE` is 0 unless the command ended with `TransportError` (R37). -/
  tcodeErr : s.status.errTcode ≠ 0 → s.status.err = 1
  /-- A guarded pressure is a zero result of a command that succeeded (R33, R114). -/
  guardZero : s.status.pguard = true → s.result = 0 ∧ s.status.err = 0
  /-- `dig_H4` and `dig_H5` hold 12-bit values widened by `H45_EXT` (R38, R104). -/
  h4Ext : ext12 s.params.h45Ext (s.calib.digH4.truncate 12) = s.calib.digH4
  h5Ext : ext12 s.params.h45Ext (s.calib.digH5.truncate 12) = s.calib.digH5
  /-- `POLL_LIMIT` >= 1 or unbounded (R9). -/
  pollLimit : s.params.pollLimit ≠ some 0
  /-- The sequencer is inside the script of its command (R22). -/
  seqOk : SeqOk s

/-- Every completed transaction is one of R58's. -/
def BusOk (s : State) : Prop := ∀ e ∈ s.trace, allowed e.req = true

end Sys2Proof.Safety
end

