-- ==== Sys2Proof/Certificates/Slice0/Obligations.lean ====
section
/-! DEFINITION. The statements for the provers. A state `{ s with … }` on the right of an equation says that
every field not named is unchanged. -/

open Sys2Proof Sys2Proof.Machine Sys2Proof.Safety

/-! ## Encoding (30_encoding.md) -/

/-- R80, R83: decoding the word of a legal command gives the command back, with every operand. -/
def Obligations.DecodeOfEncode : Prop :=
  ∀ i : Instr, i.WellFormed = true → decode (encode i) = .ok i

/-- R89: "Every 32-bit word either selects exactly one command of rule R82 or is illegal". -/
def Obligations.WordSelectsOneCommandOrIsIllegal : Prop :=
  ∀ w : Word,
    (∃ i, decode w = .ok i ∧ i.WellFormed = true ∧ encode i = w ∧
      ∀ j : Instr, j.WellFormed = true → encode j = w → j = i) ∨
    (∃ r, decode w = .error r ∧ ∀ j : Instr, j.WellFormed = true → encode j ≠ w)

/-- R82, R91 and the words of 95_test_vectors.md section 3.1: a few words and the commands they select. -/
def Obligations.SampleWordsSelectTheirCommands : Prop :=
  decode 0x00000001#32 = .ok .init ∧ decode 0x00000010#32 = .ok .getT ∧
  decode 0x00000021#32 = .ok .compP ∧ decode 0x00000530#32 = .ok (.setOsrsT 5#8) ∧
  decode 0x00000734#32 = .ok (.setStandby 7#8) ∧ decode 0x00000235#32 = .ok (.setMode 2#8) ∧
  decode 0x00000638#32 = .ok (.applyProfile 6#8)

/-- R81, R87, R88, R179: an illegal word or operand ends the command at its first step with
`IllegalCommand`, with no transaction and no other change, whatever `INIT` is and whichever way the step came to
the block. -/
def Obligations.IllegalCommandEndsAtFirstStep : Prop :=
  ∀ (s u : State) (job : Job),
    let w := job.word
    let op := (w.extractLsb' 0 8).toNat
    let arg : Byte := w.extractLsb' 8 8
    MovesFrom s u → s.seq = .start job →
    (w.extractLsb' 16 16 ≠ 0 ∨
      (op = 0 ∨ (0x02 ≤ op ∧ op ≤ 0x0F) ∨ (0x13 ≤ op ∧ op ≤ 0x1F) ∨ (0x23 ≤ op ∧ op ≤ 0x2F) ∨ op = 0x37 ∨
        0x39 ≤ op) ∨
      ((op = 0x01 ∨ (0x10 ≤ op ∧ op ≤ 0x12) ∨ (0x20 ≤ op ∧ op ≤ 0x22) ∨ op = 0x36) ∧ arg ≠ 0) ∨
      (((0x30 ≤ op ∧ op ≤ 0x34) ∨ op = 0x38) ∧ arg.extractLsb' 3 5 ≠ 0) ∨
      (op = 0x35 ∧ arg.extractLsb' 2 6 ≠ 0) ∨
      ((op = 0x20 ∨ op = 0x21) ∧ job.operand.extractLsb' 20 12 ≠ 0) ∨
      (op = 0x22 ∧ job.operand.extractLsb' 16 16 ≠ 0)) →
    step s = .next { u with seq := .idle, status := { u.status with err := 4, busy := false } }

/-- R7, R16, R84: the machine's step is the step of the agent that moves. When the block has the move and the running
word decodes to `i`, it is `exec i`, in the state from which a `pass` has been taken; when a transaction is in flight,
the transport's answer; an idle block waits; a `wait` ends when the block is not busy; the sensor's moves are its own.
The inputs that give the move are the model's convention (log entry 5). -/
def Obligations.StepRunsTheDecodedCommand : Prop :=
  (∀ (s u : State) (job : Job) (i : Instr), MovesFrom s u →
    (s.seq = .start job ∨ ∃ pos ans, s.seq = .ready job pos ans) → decode job.word = .ok i →
    mover s = .block ∧ step s = exec i u) ∧
  (∀ (s u : State) (job : Job) (q : Request) (pos : Pos), MovesFrom s u → s.seq = .flight job q pos →
    mover s = .transport ∧ step s = .next (transportStep job q pos u)) ∧
  (∀ s u : State, MovesFrom s u → s.seq = .idle → mover s = .block ∧ step s = .next u) ∧
  (∀ (s : State) (rest : List Input), s.inputs = .host .wait :: rest → s.status.busy = false →
    mover s = .host ∧ step s = .next { s with inputs := rest }) ∧
  (∀ (s : State) (m : SensorMove) (rest : List Input), s.inputs = .sensor m :: rest →
    mover s = .transport ∧ step s = .next { s with inputs := rest, sensor := s.sensor.move m })

/-! ## The host window (20_memory.md, R84 to R86) -/

/-- R85: acceptance of w, in the host's write step; `ARG` is latched, and no command's later step depends on
`ARG`. -/
def Obligations.CommandWriteIsAccepted : Prop :=
  (∀ (s : State) (w : Word) (rest : List Input), s.inputs = .host (.write 0x00 4 w) :: rest →
    s.status.busy = false →
    ∃ job : Job, job.word = w ∧ job.operand = s.arg ∧ job.pollCount = 0 ∧
      step s = .next { s with
        inputs := rest
        cmd := w.extractLsb' 0 16
        status := { s.status with
          err := 0, errStep := 0, errTcode := 0, pguard := false, overrun := false, busy := true }
        seq := .start job }) ∧
  (∀ (i : Instr) (s t : State) (v : Word), exec i s = .next t →
    exec i { s with arg := v } = .next { t with arg := v })

/-- R86: a command write while busy is dropped; only `OVERRUN` is set. -/
def Obligations.CommandWriteWhileBusyIsDropped : Prop :=
  ∀ (s : State) (w : Word) (rest : List Input), s.inputs = .host (.write 0x00 4 w) :: rest →
    s.status.busy = true →
    step s = .next { s with inputs := rest, status := { s.status with overrun := true } }

/-- R59 to R61: the register map as the host reads and writes it; every access that is not an aligned
32-bit word is refused. -/
def Obligations.HostWindowFollowsItsMap : Prop :=
  (∀ (s : State) (rest : List Input) (offset size : Nat) (v : Word),
    ¬ (size = 4 ∧ offset % 4 = 0) →
    (s.inputs = .host (.write offset size v) :: rest → step s = .refused (.hostAccess offset size)) ∧
    (s.inputs = .host (.read offset size) :: rest → step s = .refused (.hostAccess offset size))) ∧
  (∀ (s : State) (rest : List Input) (offset : Nat), offset % 4 = 0 → offset < 256 →
    s.inputs = .host (.read offset 4) :: rest →
    ∃ v : Word, step s = .next { s with inputs := rest, hostReads := s.hostReads ++ [v] } ∧
      (offset = 0x00 → v = s.cmd.zeroExtend 32) ∧ (offset = 0x04 → v = s.status.word) ∧
      (offset = 0x08 → v = s.arg) ∧ (offset = 0x0C → v = s.result) ∧ (offset = 0x10 → v = s.tfine) ∧
      (0x14 ≤ offset → offset ≤ 0x1C → v = 0) ∧
      (∀ i, i < 18 → offset = 0x20 + 4 * i → v = s.calib.word i) ∧ (0x68 ≤ offset → v = 0)) ∧
  (∀ (s : State) (rest : List Input) (v : Word), s.inputs = .host (.write 0x08 4 v) :: rest →
    step s = .next { s with inputs := rest, arg := v }) ∧
  (∀ (s : State) (rest : List Input) (offset : Nat) (v : Word), offset % 4 = 0 → offset < 256 →
    offset ≠ 0x00 → offset ≠ 0x08 → s.inputs = .host (.write offset 4 v) :: rest →
    step s = .next { s with inputs := rest }) ∧
  (∀ (s : State) (rest : List Input) (w : Word), s.inputs = .host (.write 0x00 4 w) :: rest →
    ∃ t, step s = .next t ∧ t.inputs = rest ∧
      (s.status.busy = false → t.status.busy = true ∧ ∃ job : Job, t.seq = .start job ∧ job.word = w))

/-- R28: the fields of the status word, its reset value, and that the host cannot write it. -/
def Obligations.StatusWordHasTheFieldsOfTheTable : Prop :=
  (∀ st : Status,
    st.word.getLsbD 0 = st.busy ∧ st.word.getLsbD 1 = st.init ∧ st.word.getLsbD 2 = st.calv ∧
    st.word.getLsbD 3 = st.tfv ∧ st.word.getLsbD 4 = st.pguard ∧ st.word.getLsbD 5 = st.overrun ∧
    st.word.extractLsb' 6 2 = 0 ∧ st.word.extractLsb' 8 4 = st.err ∧
    st.word.extractLsb' 12 3 = st.errStep ∧ st.word.getLsbD 15 = false ∧
    st.word.extractLsb' 16 8 = st.errTcode ∧ st.word.extractLsb' 24 8 = 0) ∧
  State.reset.status.word = 0 ∧
  (∀ (s : State) (rest : List Input) (v : Word), s.inputs = .host (.write 0x04 4 v) :: rest →
    step s = .next { s with inputs := rest })

/-- R38: the words the 18 calibration registers read as, unsigned fields zero-extended and signed fields
sign-extended. -/
def Obligations.CalibrationWordsAreWidened : Prop :=
  ∀ c : Calib,
    (c.word 0).toInt = c.digT1.toNat ∧ (c.word 1).toInt = c.digT2.toInt ∧
    (c.word 2).toInt = c.digT3.toInt ∧ (c.word 3).toInt = c.digP1.toNat ∧
    (c.word 4).toInt = c.digP2.toInt ∧ (c.word 5).toInt = c.digP3.toInt ∧
    (c.word 6).toInt = c.digP4.toInt ∧ (c.word 7).toInt = c.digP5.toInt ∧
    (c.word 8).toInt = c.digP6.toInt ∧ (c.word 9).toInt = c.digP7.toInt ∧
    (c.word 10).toInt = c.digP8.toInt ∧ (c.word 11).toInt = c.digP9.toInt ∧
    (c.word 12).toInt = c.digH1.toNat ∧ (c.word 13).toInt = c.digH2.toInt ∧
    (c.word 14).toInt = c.digH3.toNat ∧ (c.word 15).toInt = c.digH4.toInt ∧
    (c.word 16).toInt = c.digH5.toInt ∧ (c.word 17).toInt = c.digH6.toInt

/-! ## Reset (R54, R55, R193) -/

/-- R54: the block's reset values, and that after reset only INIT can succeed. -/
def Obligations.ResetLeavesTheTableValues : Prop :=
  State.reset.cmd = 0 ∧ State.reset.arg = 0 ∧ State.reset.result = 0 ∧ State.reset.tfine = 0 ∧
  State.reset.status.word = 0 ∧ (∀ i, i < 18 → State.reset.calib.word i = 0) ∧
  State.reset.scratch = List.replicate 33 0 ∧ State.reset.seq = .idle ∧
  (∀ (w : Word) (i : Instr), decode w = .ok i → i ≠ .init →
    ∃ t, exec i (accept w State.reset) = .next t ∧ t.seq = .idle ∧ t.status.err ≠ 0)

/-- R193, R195: a block reset puts every piece of block state at its reset value, abandons the script,
issues no transaction and reports no error; the sensor is not reset. Where a write is in flight its effect
is unknown, and no register but its own (and, for `ctrl_meas`, `status`: the model's choice, log entry 6)
can differ. -/
def Obligations.BlockResetAbandonsTheScript : Prop :=
  ∀ (s : State) (rest : List Input), s.inputs = .host .reset :: rest →
    ∃ t, step s = .next t ∧
      t.cmd = 0 ∧ t.arg = 0 ∧ t.result = 0 ∧ t.tfine = 0 ∧ t.status = Status.reset ∧
      t.calib = Calib.reset ∧ t.scratch = List.replicate 33 0 ∧ t.seq = .idle ∧
      t.trace = s.trace ∧ t.inputs = rest ∧ t.replies = s.replies ∧ t.params = s.params ∧
      ((∀ job a v pos, s.seq ≠ .flight job (.write a v) pos) → t.sensor = s.sensor) ∧
      (∀ job a v pos, s.seq = .flight job (.write a v) pos →
        ∀ b : Nat, b ≠ a.toNat → ¬ (a = 0xF4#8 ∧ b = 0xF3) →
          Memory.read t.sensor.mem b = Memory.read s.sensor.mem b)

/-- R55, R195: the sensor's registers after a sensor reset: the calibration registers keep the factory
values, the others take the rule's reset values; a sensor reset changes no block state. -/
def Obligations.SensorPowerOnValues : Prop :=
  ∀ (s : State) (rest : List Input), s.inputs = .sensor .reset :: rest →
    ∃ x : Sensor, step s = .next { s with inputs := rest, sensor := x } ∧
      x.reg 0xD0#8 = 0x60#8 ∧ x.reg 0xF2#8 = 0 ∧ x.reg 0xF3#8 = 0 ∧ x.reg 0xF4#8 = 0 ∧
      x.reg 0xF5#8 = 0 ∧ x.reg 0xF7#8 = 0x80#8 ∧ x.reg 0xF8#8 = 0 ∧ x.reg 0xF9#8 = 0 ∧
      x.reg 0xFA#8 = 0x80#8 ∧ x.reg 0xFB#8 = 0 ∧ x.reg 0xFC#8 = 0 ∧ x.reg 0xFD#8 = 0x80#8 ∧
      x.reg 0xFE#8 = 0 ∧
      ∀ a : Byte, (0x88 ≤ a.toNat ∧ a.toNat ≤ 0xA1) ∨ (0xE1 ≤ a.toNat ∧ a.toNat ≤ 0xE7) →
        x.reg a = s.sensor.reg a

/-! ## The first step (R175, R180, R181) -/

/-- R180, R175 (a), R181: the checks of the first step in order, and that a command that passes them goes
on: it puts a transaction in flight, or ends with no error. -/
def Obligations.FirstStepChecksInOrder : Prop :=
  ∀ (i : Instr) (s : State) (job : Job), s.seq = .start job →
    let operandBad : Prop :=
      ((i = .compT ∨ i = .compP) ∧ job.operand.extractLsb' 20 12 ≠ 0) ∨
        (i = .compH ∧ job.operand.extractLsb' 16 16 ≠ 0)
    let illegal : Prop := i.WellFormed = false ∨ operandBad
    let ended (code : BitVec 4) : Result :=
      .next { s with seq := .idle, status := { s.status with err := code, busy := false } }
    (illegal → exec i s = ended 4) ∧
    (¬ illegal → i ≠ .init → s.status.init = false → exec i s = ended 2) ∧
    (¬ illegal → s.status.init = true → (i = .compP ∨ i = .compH) → s.status.tfv = false →
      exec i s = ended 5) ∧
    (¬ illegal → (i = .init ∨ s.status.init = true) →
      ((i = .compP ∨ i = .compH) → s.status.tfv = true) →
      ∃ t, exec i s = .next t ∧
        ((∃ q pos, t.seq = .flight job q pos) ∨ (t.seq = .idle ∧ t.status.err = 0)))

/-! ## Compensation (40_compensation.md) -/

/-- R111, R108, R109: `CompT` is the rule's integer formula, every `+`, `-`, `*`, `<<` wrapped to 32
bits. -/
def Obligations.TemperatureFollowsTheFormula : Prop :=
  ∀ (adc : BitVec 20) (c : Calib),
    ((compT adc c).1.toInt, (compT adc c).2.toInt) =
      tempRule adc.toNat c.digT1.toNat c.digT2.toInt c.digT3.toInt

/-- R113, R114, R108, R109: `CompP` is the rule's integer formula at 64 bits, with the guard; `dig_P1` = 0
takes the guard for every input, and the guard depends on `dig_P1`, `dig_P2`, `dig_P3` and `t_fine`
only. -/
def Obligations.PressureFollowsTheFormula : Prop :=
  (∀ (adc : BitVec 20) (tf : Word) (c : Calib),
    match pressRule adc.toNat tf.toInt c.digP1.toNat c.digP2.toInt c.digP3.toInt c.digP4.toInt
        c.digP5.toInt c.digP6.toInt c.digP7.toInt c.digP8.toInt c.digP9.toInt with
    | none => compP adc tf c = (0, true)
    | some p => compP adc tf c = (BitVec.ofInt 32 p, false)) ∧
  (∀ (adc : BitVec 20) (tf : Word) (c : Calib), c.digP1 = 0 → compP adc tf c = (0, true)) ∧
  (∀ (adc adc' : BitVec 20) (tf : Word) (c c' : Calib), c.digP1 = c'.digP1 → c.digP2 = c'.digP2 →
    c.digP3 = c'.digP3 → (compP adc tf c).2 = (compP adc' tf c').2)

/-- R116, R117, R108, R109: `CompH` is the rule's integer formula at 32 bits with the clamp, so its result
lies in [0, 102400], which is 0 to 100 %RH. -/
def Obligations.HumidityFollowsTheFormula : Prop :=
  ∀ (adc : BitVec 16) (tf : Word) (c : Calib),
    (compH adc tf c).toInt =
      humRule adc.toNat tf.toInt c.digH1.toNat c.digH2.toInt c.digH3.toNat c.digH4.toInt
        c.digH5.toInt c.digH6.toInt ∧
    0 ≤ (compH adc tf c).toInt ∧ (compH adc tf c).toInt ≤ 102400 ∧
    0 ≤ percentRH (compH adc tf c) ∧ percentRH (compH adc tf c) ≤ 100

/-- R122: COMP_T. -/
def Obligations.CompTWritesTemperatureAndTFine : Prop :=
  encode .compT = 0x00000020#32 ∧
  (∀ w : Word, w.extractLsb' 0 8 = 0x20#8 → w.extractLsb' 8 8 ≠ 0 → w.extractLsb' 16 16 = 0 →
    decode w = .error .argument) ∧
  (∀ (s : State) (job : Job), s.seq = .start job →
    (job.operand.extractLsb' 20 12 ≠ 0 →
      exec .compT s = .next { s with seq := .idle, status := { s.status with err := 4, busy := false } }) ∧
    (job.operand.extractLsb' 20 12 = 0 → s.status.init = false →
      exec .compT s = .next { s with seq := .idle, status := { s.status with err := 2, busy := false } }) ∧
    (job.operand.extractLsb' 20 12 = 0 → s.status.init = true →
      exec .compT s = .next { s with
        result := (compT (job.operand.extractLsb' 0 20) s.calib).1
        tfine := (compT (job.operand.extractLsb' 0 20) s.calib).2
        status := { s.status with tfv := true, err := 0, busy := false }
        seq := .idle })) ∧
  compT 519888#20 calExample = (2508#32, 128422#32)

/-- R123: COMP_P. -/
def Obligations.CompPWritesPressureAndGuard : Prop :=
  encode .compP = 0x00000021#32 ∧
  (∀ w : Word, w.extractLsb' 0 8 = 0x21#8 → w.extractLsb' 8 8 ≠ 0 → w.extractLsb' 16 16 = 0 →
    decode w = .error .argument) ∧
  (∀ (s : State) (job : Job), s.seq = .start job →
    (job.operand.extractLsb' 20 12 ≠ 0 →
      exec .compP s = .next { s with seq := .idle, status := { s.status with err := 4, busy := false } }) ∧
    (job.operand.extractLsb' 20 12 = 0 → s.status.init = false →
      exec .compP s = .next { s with seq := .idle, status := { s.status with err := 2, busy := false } }) ∧
    (job.operand.extractLsb' 20 12 = 0 → s.status.init = true → s.status.tfv = false →
      exec .compP s = .next { s with seq := .idle, status := { s.status with err := 5, busy := false } }) ∧
    (job.operand.extractLsb' 20 12 = 0 → s.status.init = true → s.status.tfv = true →
      exec .compP s = .next { s with
        result := (compP (job.operand.extractLsb' 0 20) s.tfine s.calib).1
        status := { s.status with
          pguard := (compP (job.operand.extractLsb' 0 20) s.tfine s.calib).2, err := 0, busy := false }
        seq := .idle })) ∧
  compP 415148#20 128422#32 calExample = (25767233#32, false) ∧
  compP 0xFFFFF#20 128422#32 calExample = (0xFFE61920#32, false)

/-- R124: COMP_H. -/
def Obligations.CompHWritesHumidity : Prop :=
  encode .compH = 0x00000022#32 ∧
  (∀ w : Word, w.extractLsb' 0 8 = 0x22#8 → w.extractLsb' 8 8 ≠ 0 → w.extractLsb' 16 16 = 0 →
    decode w = .error .argument) ∧
  (∀ (s : State) (job : Job), s.seq = .start job →
    (job.operand.extractLsb' 16 16 ≠ 0 →
      exec .compH s = .next { s with seq := .idle, status := { s.status with err := 4, busy := false } }) ∧
    (job.operand.extractLsb' 16 16 = 0 → s.status.init = false →
      exec .compH s = .next { s with seq := .idle, status := { s.status with err := 2, busy := false } }) ∧
    (job.operand.extractLsb' 16 16 = 0 → s.status.init = true → s.status.tfv = false →
      exec .compH s = .next { s with seq := .idle, status := { s.status with err := 5, busy := false } }) ∧
    (job.operand.extractLsb' 16 16 = 0 → s.status.init = true → s.status.tfv = true →
      exec .compH s = .next { s with
        result := compH (job.operand.extractLsb' 0 16) s.tfine s.calib
        status := { s.status with err := 0, busy := false }
        seq := .idle })) ∧
  compH 28160#16 128422#32 calExample = 46829#32 ∧ compH 0#16 128422#32 calExample = 0#32 ∧
  compH 0xFFFF#16 128422#32 calExample = 102400#32

/-! ## Raw values and the calibration image (R99 to R104) -/

/-- R99, R100: raw values are assembled most significant byte first; `b[2][3:0]` is discarded. -/
def Obligations.RawValuesAreBigEndian : Prop :=
  (∀ b0 b1 b2 : Byte,
    (adc20 [b0, b1, b2]).toNat = (b0.toNat * 65536 + b1.toNat * 256 + b2.toNat) / 16) ∧
  (∀ b0 b1 : Byte, (adc16 [b0, b1]).toNat = b0.toNat * 256 + b1.toNat)

/-- R103, R104, R110: the fields decoded from a calibration image. `DecodeA` reads block 1 only and
`DecodeB` block 2 only; the two widenings of `dig_H4`, `dig_H5` agree when the top bits of `img[29]` and
`img[31]` are clear. -/
def Obligations.CalibrationImageDecodes : Prop :=
  (∀ (img : List Byte) (c : Calib), let a := decodeA img c
    let le (i : Nat) : Nat := (byteAt img i).toNat + 256 * (byteAt img (i + 1)).toNat
    (a.digT1.toNat = le 0 ∧ a.digT2.toInt = wrap 16 (le 2) ∧ a.digT3.toInt = wrap 16 (le 4) ∧
      a.digP1.toNat = le 6 ∧ a.digP2.toInt = wrap 16 (le 8) ∧ a.digP3.toInt = wrap 16 (le 10) ∧
      a.digP4.toInt = wrap 16 (le 12) ∧ a.digP5.toInt = wrap 16 (le 14) ∧
      a.digP6.toInt = wrap 16 (le 16) ∧ a.digP7.toInt = wrap 16 (le 18) ∧
      a.digP8.toInt = wrap 16 (le 20) ∧ a.digP9.toInt = wrap 16 (le 22) ∧
      a.digH1.toNat = (byteAt img 25).toNat) ∧
    a.digH2 = c.digH2 ∧ a.digH3 = c.digH3 ∧ a.digH4 = c.digH4 ∧ a.digH5 = c.digH5 ∧ a.digH6 = c.digH6) ∧
  (∀ (ext : Config.H45Ext) (img : List Byte) (c : Calib), let b := decodeB ext img c
    let h4 : Nat := 16 * (byteAt img 29).toNat + (byteAt img 30).toNat % 16
    let h5 : Nat := 16 * (byteAt img 31).toNat + (byteAt img 30).toNat / 16
    (b.digH2.toInt = wrap 16 ((byteAt img 26).toNat + 256 * (byteAt img 27).toNat : Nat) ∧
      b.digH3.toNat = (byteAt img 28).toNat ∧
      (ext = .sext12 → b.digH4.toInt = wrap 12 h4 ∧ b.digH5.toInt = wrap 12 h5) ∧
      (ext = .zext12 → b.digH4.toInt = h4 ∧ b.digH5.toInt = h5) ∧
      b.digH6.toInt = wrap 8 (byteAt img 32).toNat) ∧
    b.digT1 = c.digT1 ∧ b.digT2 = c.digT2 ∧ b.digT3 = c.digT3 ∧ b.digP1 = c.digP1 ∧ b.digP2 = c.digP2 ∧
    b.digP3 = c.digP3 ∧ b.digP4 = c.digP4 ∧ b.digP5 = c.digP5 ∧ b.digP6 = c.digP6 ∧ b.digP7 = c.digP7 ∧
    b.digP8 = c.digP8 ∧ b.digP9 = c.digP9 ∧ b.digH1 = c.digH1) ∧
  (∀ (img : List Byte) (c : Calib), (byteAt img 29).toNat < 0x80 → (byteAt img 31).toNat < 0x80 →
    decodeB .sext12 img c = decodeB .zext12 img c) ∧
  (∀ (img img' : List Byte) (c : Calib), (∀ i, i < 26 → byteAt img i = byteAt img' i) →
    decodeA img c = decodeA img' c) ∧
  (∀ (ext : Config.H45Ext) (img img' : List Byte) (c : Calib),
    (∀ i, 26 ≤ i → i < 33 → byteAt img i = byteAt img' i) → decodeB ext img c = decodeB ext img' c)

/-! ## Setters, mode, profiles (41_configuration.md) -/

/-- R135 to R140: the first step of a setter. -/
def Obligations.SetterReadsItsRegister : Prop :=
  ∀ (i : Instr) (addr mask value : Byte), setterRow i = some (addr, mask, value) →
  ∀ (s : State) (job : Job), s.seq = .start job →
    (i.WellFormed = false →
      exec i s = .next { s with seq := .idle, status := { s.status with err := 4, busy := false } }) ∧
    (i.WellFormed = true → s.status.init = false →
      exec i s = .next { s with seq := .idle, status := { s.status with err := 2, busy := false } }) ∧
    (i.WellFormed = true → s.status.init = true →
      exec i s = .next { s with seq := .flight job (.read addr 1) .rmwRead })

/-- R134: the read-modify-write of a setter. The read's byte keeps every bit outside the mask; on a failed
read no write is attempted; after the write nothing more is issued, so nothing is read back. -/
def Obligations.UpdateFieldReadsThenWrites : Prop :=
  ∀ (i : Instr) (addr mask value : Byte), setterRow i = some (addr, mask, value) →
  ∀ (s : State) (job : Job),
    (∀ r : Byte, s.seq = .ready job .rmwRead (.ok [r]) →
      ∃ w : Byte, exec i s = .next { s with seq := .flight job (.write addr w) .rmwWrite } ∧
        ∀ b, b < 8 → w.getLsbD b = if mask.getLsbD b then value.getLsbD b else r.getLsbD b) ∧
    (∀ c : Nat, s.seq = .ready job .rmwRead (.err c) ∨ s.seq = .ready job .rmwWrite (.err c) →
      exec i s = .next { s with
        seq := .idle
        status := { s.status with err := 1, errTcode := BitVec.ofNat 8 c, busy := false } }) ∧
    (s.seq = .ready job .rmwWrite (.ok []) →
      exec i s = .next { s with seq := .idle, status := { s.status with err := 0, busy := false } })

/-- R134 to R140: a setter from acceptance to its end, over a transport that answers: two
transactions, and no block state but `STATUS` and `SEQ` changes. The model's part in it: the five steps are counted
as log entry 10 counts them (R16), the sensor model follows the acknowledged write (log entry 4), and `freeCount`, the
model's own field, advances by 2 a transaction (log entry 12). -/
def Obligations.SetterRunMakesTwoTransactions : Prop :=
  ∀ (i : Instr) (addr mask value : Byte), setterRow i = some (addr, mask, value) →
  i.WellFormed = true →
  ∀ (s : State) (job : Job) (r : Byte) (bytes : List Byte) (rest : List Reply),
    s.inputs = [] → s.seq = .start job → decode job.word = .ok i → s.status.init = true →
    s.replies = .ok [r] :: .ok bytes :: rest →
    let w := (r &&& ~~~mask) ||| (value &&& mask)
    Sys2Proof.core.run 5 s = .next { s with
      seq := .idle
      status := { s.status with err := 0, busy := false }
      replies := rest
      sensor := s.sensor.write (s.freeCount + 2) addr w
      trace := s.trace ++
        [⟨s.params.slaveAddr, .read addr 1, .ok [r]⟩, ⟨s.params.slaveAddr, .write addr w, .ok []⟩]
      freeCount := s.freeCount + 4 }

/-- R141, R106: GET_MODE. -/
def Obligations.GetModeReturnsTheModeField : Prop :=
  encode .getMode = 0x00000036#32 ∧
  (∀ (s : State) (job : Job), s.seq = .start job →
    (s.status.init = false →
      exec .getMode s = .next { s with seq := .idle, status := { s.status with err := 2, busy := false } }) ∧
    (s.status.init = true →
      exec .getMode s = .next { s with seq := .flight job (.read 0xF4#8 1) .mode })) ∧
  (∀ (s : State) (job : Job) (m : Byte), s.seq = .ready job .mode (.ok [m]) →
    ∃ r : Word, r.toNat = m.toNat % 4 ∧
      exec .getMode s = .next { s with
        result := r, seq := .idle, status := { s.status with err := 0, busy := false } }) ∧
  (∀ (s : State) (job : Job) (c : Nat), s.seq = .ready job .mode (.err c) →
    exec .getMode s = .next { s with
      seq := .idle
      status := { s.status with err := 1, errTcode := BitVec.ofNat 8 c, busy := false } })

/-- R147, R145: the profile table; numbers 4 to 7 equal Weather. -/
def Obligations.ProfileTableRows : Prop :=
  profileRow 0 = ⟨0b001, 0b001, 0b001, 0b000, 0b101, 0b01⟩ ∧
  profileRow 1 = ⟨0b001, 0b000, 0b001, 0b000, 0b101, 0b01⟩ ∧
  profileRow 2 = ⟨0b010, 0b101, 0b001, 0b100, 0b000, 0b11⟩ ∧
  profileRow 3 = ⟨0b001, 0b011, 0b000, 0b100, 0b000, 0b11⟩ ∧
  ∀ q : BitVec 3, 4 ≤ q.toNat → profileRow q = profileRow 0

/-- R143: `ApplyProfile`, in APPLY_PROFILE and in INIT: the six updates in order, the next step after each
success, the end of the command after the sixth, and `ERR_STEP` on the first failure. -/
def Obligations.ProfileStepsRunInOrder : Prop :=
  ∀ (i : Instr) (p : Profile), profileOf i = some p →
  ∀ (s : State) (job : Job) (k : ProfileStep),
    (∀ r : Byte, s.seq = .ready job (.profRead k) (.ok [r]) →
      let w := (r &&& ~~~(profileStepRow p k).2.1) ||| ((profileStepRow p k).2.2 &&& (profileStepRow p k).2.1)
      exec i s = .next { s with seq := .flight job (.write (profileStepRow p k).1 w) (.profWrite k) }) ∧
    (∀ bytes, s.seq = .ready job (.profWrite k) (.ok bytes) →
      (∀ k' : ProfileStep, k'.index.toNat = k.index.toNat + 1 →
        exec i s = .next { s with seq := .flight job (.read (profileStepRow p k').1 1) (.profRead k') }) ∧
      (k.index = 6 →
        exec i s = .next { s with seq := .idle, status := { s.status with err := 0, busy := false } })) ∧
    (∀ c : Nat, s.seq = .ready job (.profRead k) (.err c) ∨ s.seq = .ready job (.profWrite k) (.err c) →
      exec i s = .next { s with
        seq := .idle
        status := { s.status with
          err := 1, errStep := k.index, errTcode := BitVec.ofNat 8 c, busy := false } })

/-- R142, R143, R180: APPLY_PROFILE's first step. -/
def Obligations.ApplyProfileStartsWithStepOne : Prop :=
  ∀ (arg : Byte) (s : State) (job : Job), s.seq = .start job →
    (argLegal 0x07#8 arg = false → exec (.applyProfile arg) s =
      .next { s with seq := .idle, status := { s.status with err := 4, busy := false } }) ∧
    (argLegal 0x07#8 arg = true → s.status.init = false → exec (.applyProfile arg) s =
      .next { s with seq := .idle, status := { s.status with err := 2, busy := false } }) ∧
    (argLegal 0x07#8 arg = true → s.status.init = true → exec (.applyProfile arg) s =
      .next { s with seq := .flight job (.read 0xF4#8 1) (.profRead .osrsT) })

/-- R148: the transactions of `ApplyProfile` when every transaction succeeds and every sensor register
starts at 0x00: bytes read and written, in order, for profile numbers 0 to 7. The 25 steps are the model's count
(log entry 10). -/
def Obligations.ProfileTransactionsFromZero : Prop :=
  let start (q : BitVec 3) : State := { accept (encode (.applyProfile (q.zeroExtend 8)))
    { State.reset with status := { Status.reset with init := true, calv := true } } with inputs := [] }
  let bus (l : List (Byte × Byte × Byte)) : List (Request × Answer) := l.flatMap fun e =>
    [(.read e.1 1, .ok [e.2.1]), (.write e.1 e.2.2, .ok [])]
  let makes (q : BitVec 3) (l : List (Byte × Byte × Byte)) : Prop :=
    ∃ t, Sys2Proof.core.run 25 (start q) = .next t ∧ (t.trace.map fun e => (e.req, e.ans)) = bus l ∧ t.seq = .idle ∧ t.status.err = 0
  (∀ q : BitVec 3, q = 0 ∨ 4 ≤ q.toNat →
    makes q [(0xF4, 0x00, 0x20), (0xF4, 0x20, 0x24), (0xF2, 0x00, 0x01), (0xF5, 0x00, 0x00),
      (0xF5, 0x00, 0xA0), (0xF4, 0x24, 0x25)]) ∧
  makes 1 [(0xF4, 0x00, 0x20), (0xF4, 0x20, 0x20), (0xF2, 0x00, 0x01), (0xF5, 0x00, 0x00),
    (0xF5, 0x00, 0xA0), (0xF4, 0x20, 0x21)] ∧
  makes 2 [(0xF4, 0x00, 0x40), (0xF4, 0x40, 0x54), (0xF2, 0x00, 0x01), (0xF5, 0x00, 0x10),
    (0xF5, 0x10, 0x10), (0xF4, 0x54, 0x57)] ∧
  makes 3 [(0xF4, 0x00, 0x20), (0xF4, 0x20, 0x2C), (0xF2, 0x00, 0x00), (0xF5, 0x00, 0x10),
    (0xF5, 0x10, 0x10), (0xF4, 0x2C, 0x2F)]

/-! ## INIT (R152 to R155) -/

/-- R153, R163: INIT's first step clears the session, whatever it was, and reads the identifier. -/
def Obligations.InitClearsTheSession : Prop :=
  encode .init = 0x00000001#32 ∧
  ∀ (s : State) (job : Job), s.seq = .start job →
    exec .init s = .next { s with
      status := { s.status with init := false, calv := false, tfv := false }
      seq := .flight job (.read 0xD0#8 1) .id }

/-- R152: INIT reads the identifier with one read; a wrong one ends it with `NotInitialized` and no further
transaction; the right one goes on to the calibration. -/
def Obligations.InitChecksTheChipIdentifier : Prop :=
  (∀ (s : State) (job : Job), s.seq = .start job →
    ∃ st : Status, exec .init s = .next { s with status := st, seq := .flight job (.read 0xD0#8 1) .id }) ∧
  (∀ (s : State) (job : Job) (id : Byte), s.seq = .ready job .id (.ok [id]) →
    (id ≠ s.params.chipId →
      exec .init s = .next { s with seq := .idle, status := { s.status with err := 2, busy := false } }) ∧
    (id = s.params.chipId →
      exec .init s = .next { s with seq := .flight job (.read 0x88#8 26) .calA }))

/-- R154, R153: `ReadCalibration` block by block, the buffer zeroed on every way out, then `CALV`, `INIT`
and the first profile read. -/
def Obligations.InitReadsTheCalibration : Prop :=
  (∀ (s : State) (job : Job) (a : List Byte), a.length = 26 → s.scratch.length = 33 →
    s.seq = .ready job .calA (.ok a) →
    exec .init s = .next { s with
      scratch := a ++ s.scratch.drop 26
      calib := decodeA (a ++ s.scratch.drop 26) s.calib
      seq := .flight { job with burst := a } (.read 0xE1#8 7) .calB }) ∧
  (∀ (s : State) (job : Job) (b : List Byte), b.length = 7 → s.scratch.length = 33 →
    s.seq = .ready job .calB (.ok b) →
    exec .init s = .next { s with
      scratch := List.replicate 33 0
      calib := decodeB s.params.h45Ext (s.scratch.take 26 ++ b) s.calib
      status := { s.status with calv := true, init := true }
      seq := .flight { job with burst := b } (.read 0xF4#8 1) (.profRead .osrsT) }) ∧
  (∀ (s : State) (job : Job) (c : Nat),
    s.seq = .ready job .calA (.err c) ∨ s.seq = .ready job .calB (.err c) →
    exec .init s = .next { s with
      scratch := List.replicate 33 0
      seq := .idle
      status := { s.status with err := 1, errTcode := BitVec.ofNat 8 c, busy := false } })

/-- R155: after a failed `ReadCalibration` the session is closed; a failure of block A's burst changes no
calibration field, and from block A's success to a failure of block B's burst the block-A fields are the
new decode and the block-B fields the old values. The 3 steps are the model's count (log entry 10). -/
def Obligations.FailedCalibrationLeavesPartialFields : Prop :=
  (∀ (s t u : State) (job : Job) (c : Nat), Consistent s → decode job.word = .ok .init → MovesFrom s u →
    (s.seq = .ready job .calA (.err c) ∨ s.seq = .ready job .calB (.err c)) → step s = .next t →
    t.calib = s.calib ∧ t.status.calv = false ∧ t.status.init = false ∧ t.status.err = 1) ∧
  (∀ (s : State) (job : Job) (a : List Byte) (c : Nat) (rest : List Reply), Consistent s →
    decode job.word = .ok .init → s.inputs = [] → s.seq = .ready job .calA (.ok a) →
    s.replies = .err c :: rest →
    ∃ t, Sys2Proof.core.run 3 s = .next t ∧ t.seq = .idle ∧ t.status.err = 1 ∧ t.status.calv = false ∧
      t.status.init = false ∧ t.calib = decodeA a s.calib)

/-- R153: INIT from acceptance to its end, over a transport that answers with a good identifier and the two
calibration blocks and acknowledges the profile's transactions (a byte its replies do not give is the sensor model's,
log entry 4): 15 transactions, then the session is open. The 31 steps are the model's count (log entry 10). -/
def Obligations.InitRunOpensTheSession : Prop :=
  ∀ (s : State) (job : Job) (a b : List Byte) (writes : List Reply), Consistent s → s.inputs = [] →
    s.seq = .start job → decode job.word = .ok .init → a.length = 26 → b.length = 7 →
    writes.length = 12 → (∀ r ∈ writes, ∃ bytes, r = .ok bytes) →
    s.replies = .ok [s.params.chipId] :: .ok a :: .ok b :: writes →
    ∃ t, Sys2Proof.core.run 31 s = .next t ∧ t.seq = .idle ∧
      t.status = { s.status with
        init := true, calv := true, tfv := false, err := 0, busy := false } ∧
      t.calib = decodeB s.params.h45Ext (a ++ b) (decodeA a s.calib) ∧
      t.scratch = List.replicate 33 0 ∧ t.result = s.result ∧ t.tfine = s.tfine ∧
      t.trace.length = s.trace.length + 15

/-! ## Measurement (R151, R156 to R165) -/

/-- R151, R156, R157: the head of the measurement commands. -/
def Obligations.MeasurementForcesTheMode : Prop :=
  ∀ (i : Instr), Measures i → ∀ (s : State) (job : Job), s.params.pollLimit ≠ some 0 →
    (s.seq = .start job → s.status.init = false →
      exec i s = .next { s with seq := .idle, status := { s.status with err := 2, busy := false } }) ∧
    (s.seq = .start job → s.status.init = true →
      exec i s = .next { s with seq := .flight job (.read 0xF4#8 1) .mode }) ∧
    (∀ m : Byte, s.seq = .ready job .mode (.ok [m]) → m.toNat % 4 ≠ 3 →
      exec i s = .next { s with
        seq := .flight { job with m := m } (.write 0xF4#8 ((m &&& 0xFC#8) ||| 0x01#8)) .forced }) ∧
    (∀ m : Byte, s.seq = .ready job .mode (.ok [m]) → m.toNat % 4 = 3 →
      exec i s = .next { s with
        seq := .flight { job with m := m, pollCount := 0 } (.read 0xF3#8 1) .poll }) ∧
    (s.seq = .ready job .forced (.ok []) →
      exec i s = .next { s with seq := .flight { job with pollCount := 0 } (.read 0xF3#8 1) .poll }) ∧
    (∀ c : Nat, s.seq = .ready job .mode (.err c) ∨ s.seq = .ready job .forced (.err c) →
      exec i s = .next { s with
        seq := .idle
        status := { s.status with err := 1, errTcode := BitVec.ofNat 8 c, busy := false } })

/-- R158, R159, R178, R98: the poll. Only status bit 3 counts; each status read is counted; at the bound the
command ends with `Timeout` and no raw block is read; an unbounded poll never times out. -/
def Obligations.PollIsBounded : Prop :=
  ∀ (i : Instr), Measures i → ∀ (s : State) (job : Job) (st : Byte),
    s.seq = .ready job .poll (.ok [st]) →
    (st.getLsbD 3 = false → exec i s = .next { s with
      seq := .flight { job with pollCount := job.pollCount + 1 } (.read 0xFA#8 3) .temp }) ∧
    (st.getLsbD 3 = true → s.params.pollLimit = some (job.pollCount + 1) →
      exec i s = .next { s with seq := .idle, status := { s.status with err := 3, busy := false } }) ∧
    (st.getLsbD 3 = true → s.params.pollLimit ≠ some (job.pollCount + 1) →
      exec i s = .next { s with
        seq := .flight { job with pollCount := job.pollCount + 1 } (.read 0xF3#8 1) .poll })

/-- R160: GET_T's end. -/
def Obligations.GetTEndsWithTheTemperature : Prop :=
  ∀ (s : State) (job : Job) (b0 b1 b2 : Byte), s.scratch.length = 33 →
    s.seq = .ready job .temp (.ok [b0, b1, b2]) →
    exec .getT s = .next { s with
      scratch := [b0, b1, b2] ++ s.scratch.drop 3
      tfine := (compT (adc20 [b0, b1, b2]) s.calib).2
      result := (compT (adc20 [b0, b1, b2]) s.calib).1
      status := { s.status with tfv := true, err := 0, busy := false }
      seq := .idle }

/-- R161: GET_P's last two steps: `t_fine` from the temperature of the same measurement, then the
pressure. -/
def Obligations.GetPEndsWithThePressure : Prop :=
  (∀ (s : State) (job : Job) (b0 b1 b2 : Byte), s.scratch.length = 33 →
    s.seq = .ready job .temp (.ok [b0, b1, b2]) →
    exec .getP s = .next { s with
      scratch := [b0, b1, b2] ++ s.scratch.drop 3
      tfine := (compT (adc20 [b0, b1, b2]) s.calib).2
      status := { s.status with tfv := true }
      seq := .flight { job with burst := [b0, b1, b2] } (.read 0xF7#8 3) .press }) ∧
  (∀ (s : State) (job : Job) (b0 b1 b2 : Byte), s.scratch.length = 33 →
    s.seq = .ready job .press (.ok [b0, b1, b2]) →
    exec .getP s = .next { s with
      scratch := s.scratch.take 3 ++ [b0, b1, b2] ++ s.scratch.drop 6
      result := (compP (adc20 [b0, b1, b2]) s.tfine s.calib).1
      status := { s.status with
        pguard := (compP (adc20 [b0, b1, b2]) s.tfine s.calib).2, err := 0, busy := false }
      seq := .idle })

/-- R162: GET_H's last two steps. -/
def Obligations.GetHEndsWithTheHumidity : Prop :=
  (∀ (s : State) (job : Job) (b0 b1 b2 : Byte), s.scratch.length = 33 →
    s.seq = .ready job .temp (.ok [b0, b1, b2]) →
    exec .getH s = .next { s with
      scratch := [b0, b1, b2] ++ s.scratch.drop 3
      tfine := (compT (adc20 [b0, b1, b2]) s.calib).2
      status := { s.status with tfv := true }
      seq := .flight { job with burst := [b0, b1, b2] } (.read 0xFD#8 2) .hum }) ∧
  (∀ (s : State) (job : Job) (b0 b1 : Byte), s.scratch.length = 33 →
    s.seq = .ready job .hum (.ok [b0, b1]) →
    exec .getH s = .next { s with
      scratch := s.scratch.take 3 ++ [b0, b1] ++ s.scratch.drop 5
      result := compH (adc16 [b0, b1]) s.tfine s.calib
      status := { s.status with err := 0, busy := false }
      seq := .idle })

/-- R160 and the source's scenario S7: GET_T from acceptance to its end while the sensor is in Sleep or
Forced, with n status reads that show "measuring" and one that does not: one read of `ctrl_meas`, one
write forcing Forced mode, n + 1 status reads, one burst of 3 bytes. The 2n + 9 steps are the model's count (log
entry 10). -/
def Obligations.GetTRunMakesTheScenarioTransactions : Prop :=
  ∀ (s : State) (job : Job) (m st b0 b1 b2 : Byte) (bytes : List Byte) (busyReads : List Byte)
    (rest : List Reply),
    s.inputs = [] → s.seq = .start job → decode job.word = .ok .getT → s.status.init = true →
    s.scratch.length = 33 → m.toNat % 4 ≠ 3 → (∀ b ∈ busyReads, b.getLsbD 3 = true) →
    st.getLsbD 3 = false →
    (∀ limit, s.params.pollLimit = some limit → busyReads.length < limit) →
    s.replies = .ok [m] :: .ok bytes :: (busyReads.map fun b => .ok [b]) ++
      .ok [st] :: .ok [b0, b1, b2] :: rest →
    ∃ t, Sys2Proof.core.run (2 * busyReads.length + 9) s = .next t ∧ t.seq = .idle ∧
      t.result = (compT (adc20 [b0, b1, b2]) s.calib).1 ∧
      t.tfine = (compT (adc20 [b0, b1, b2]) s.calib).2 ∧
      t.status = { s.status with tfv := true, err := 0, busy := false } ∧
      t.trace.map Transaction.req = s.trace.map Transaction.req ++
        [.read 0xF4#8 1, .write 0xF4#8 ((m &&& 0xFC#8) ||| 0x01#8)] ++
        List.replicate (busyReads.length + 1) (.read 0xF3#8 1) ++ [.read 0xFA#8 3]

/-! ## Errors (R173 to R178) -/

/-- R174, R176: a transaction answered `Err(c)` ends the command, whatever it was, at the block's next step:
no retry, no further transaction, no rollback; `ERR_STEP` is the profile step, inside a profile; the buffer is
zeroed after a failed calibration burst (R154) and kept after every other failure (R177). -/
def Obligations.TransportErrorEndsTheCommand : Prop :=
  ∀ (i : Instr) (s : State) (job : Job) (pos : Pos) (c : Nat), scriptHas i pos = true →
    s.seq = .ready job pos (.err c) →
    exec i s = .next { s with
      scratch := if pos = .calA ∨ pos = .calB then List.replicate 33 0 else s.scratch
      seq := .idle
      status := { s.status with
        err := 1
        errStep := (match profileStepAt pos with
          | some k => k.index
          | none => s.status.errStep)
        errTcode := BitVec.ofNat 8 c
        busy := false } }

/-- R173: the codes, and what the status word says after each. -/
def Obligations.ErrorCodesAreNumbered : Prop :=
  ∀ (s : State) (e : Error),
    (raise e s).seq = .idle ∧ (raise e s).status.busy = false ∧
    (∀ c, e = .transport c → (raise e s).status.err = 1 ∧ (raise e s).status.errTcode.toNat = c % 256) ∧
    ((∀ c, e ≠ .transport c) → (raise e s).status.errTcode = s.status.errTcode) ∧
    (e = .notInitialized → (raise e s).status.err = 2) ∧ (e = .timeout → (raise e s).status.err = 3) ∧
    (e = .illegalCommand → (raise e s).status.err = 4) ∧ (e = .tfineInvalid → (raise e s).status.err = 5) ∧
    (raise e s).status.errStep = s.status.errStep ∧ (raise e s).cmd = s.cmd ∧ (raise e s).result = s.result ∧
    (raise e s).tfine = s.tfine ∧ (raise e s).calib = s.calib ∧ (raise e s).sensor = s.sensor

/-! ## Frames and whole-machine rules -/

/-- R75, R134, R60: a block step of any command reaches the sensor only through the transaction it puts in
flight: every byte of the sensor register space reads as before, and `CMD`, `ARG`, the parameters and
everything outside the block are unchanged. -/
def Obligations.BlockStepLeavesTheOutsideAlone : Prop :=
  ∀ (i : Instr) (s t : State), exec i s = .next t →
    t.cmd = s.cmd ∧ t.arg = s.arg ∧ t.params = s.params ∧ t.sensor = s.sensor ∧
    t.replies = s.replies ∧ t.inputs = s.inputs ∧ t.hostReads = s.hostReads ∧ t.trace = s.trace ∧
    t.freeCount = s.freeCount ∧ t.status.overrun = s.status.overrun ∧
    ∀ a : Nat, Memory.read t.sensor.mem a = Memory.read s.sensor.mem a

/-- The block state each group of commands never changes; `RESULT` of the commands that return a value is
`OnlySuccessWritesTheResult`'s, what lies outside the block is `BlockStepLeavesTheOutsideAlone`'s. -/
def Obligations.CommandFrames : Prop :=
  ∀ (i : Instr) (s t : State), exec i s = .next t →
    ((setterRow i ≠ none ∨ (∃ arg, i = .applyProfile arg)) →
      t.result = s.result ∧ t.tfine = s.tfine ∧ t.calib = s.calib ∧ t.scratch = s.scratch ∧
      t.status.init = s.status.init ∧ t.status.calv = s.status.calv ∧ t.status.tfv = s.status.tfv ∧
      t.status.pguard = s.status.pguard) ∧
    (i = .getMode → t.tfine = s.tfine ∧ t.calib = s.calib ∧ t.scratch = s.scratch ∧
      t.status.init = s.status.init ∧ t.status.calv = s.status.calv ∧ t.status.tfv = s.status.tfv ∧
      t.status.pguard = s.status.pguard) ∧
    (i = .compT → t.calib = s.calib ∧ t.scratch = s.scratch ∧ t.status.init = s.status.init ∧
      t.status.calv = s.status.calv ∧ t.status.pguard = s.status.pguard) ∧
    (i = .compP ∨ i = .compH → t.tfine = s.tfine ∧ t.calib = s.calib ∧ t.scratch = s.scratch ∧
      t.status.init = s.status.init ∧ t.status.calv = s.status.calv ∧ t.status.tfv = s.status.tfv) ∧
    (i = .compH ∨ i = .getT ∨ i = .getH → t.status.pguard = s.status.pguard) ∧
    (Measures i → t.calib = s.calib ∧ t.status.init = s.status.init ∧ t.status.calv = s.status.calv) ∧
    (i = .init → t.result = s.result ∧ t.tfine = s.tfine ∧ t.status.pguard = s.status.pguard) ∧
    ((∀ arg, i ≠ .applyProfile arg) → i ≠ .init → t.status.errStep = s.status.errStep) ∧
    (i = .compT ∨ i = .compP ∨ i = .compH → t.status.errTcode = s.status.errTcode)

/-- R39: the calibration fields change only in `ReadCalibration` inside INIT, and at a reset. -/
def Obligations.OnlyInitWritesTheCalibration : Prop :=
  ∀ s t : State, step s = .next t →
    t.calib = s.calib ∨ (∃ rest, s.inputs = .host .reset :: rest) ∨
    (∃ job bytes, decode job.word = .ok .init ∧
      (s.seq = .ready job .calA (.ok bytes) ∨ s.seq = .ready job .calB (.ok bytes)))

/-- R26, R177: `RESULT` changes only when a command that returns a value ends without error, and at a
reset. -/
def Obligations.OnlySuccessWritesTheResult : Prop :=
  ∀ s t : State, step s = .next t →
    t.result = s.result ∨ (∃ rest, s.inputs = .host .reset :: rest) ∨
    (t.seq = .idle ∧ t.status.err = 0 ∧ t.status.busy = false ∧
      ∃ job i, (s.seq = .start job ∨ ∃ pos ans, s.seq = .ready job pos ans) ∧ decode job.word = .ok i ∧
        i ∈ [Instr.getT, .getP, .getH, .compT, .compP, .compH, .getMode])

/-- R32: `TFV` is set whenever `TFINE` is written by a temperature compensation; only a reset and the start
of INIT clear it; and `TFINE` changes only by a temperature compensation or a reset. -/
def Obligations.TFineIsValidOnceWritten : Prop :=
  ∀ s t : State, step s = .next t →
    (t.tfine ≠ s.tfine → (∃ rest, s.inputs = .host .reset :: rest) ∨ t.status.tfv = true) ∧
    (s.status.tfv = true → t.status.tfv = false →
      (∃ rest, s.inputs = .host .reset :: rest) ∨
      (∃ job, s.seq = .start job ∧ decode job.word = .ok .init)) ∧
    (s.status.tfv = false → t.status.tfv = true →
      ∃ job i, decode job.word = .ok i ∧
        ((s.seq = .start job ∧ i = .compT) ∨
          (∃ bytes, s.seq = .ready job .temp (.ok bytes) ∧ Measures i)))

/-! ## The transport and the sensor -/

/-- R64, R65: a read that reaches the sensor returns the consecutive registers, as many as asked for; a
failed read gives no bytes; neither changes the sensor (R72). That the sensor's own registers answer when no reply is
left is the model's choice (log entry 4). -/
def Obligations.ReadsReturnConsecutiveRegisters : Prop :=
  ∀ (s u : State) (job : Job) (a : Byte) (n : Nat) (pos : Pos), MovesFrom s u →
    s.seq = .flight job (.read a n) pos →
    (s.replies = [] → a.toNat + n ≤ 256 →
      ∃ t bytes, step s = .next t ∧ t.seq = .ready job pos (.ok bytes) ∧ bytes.length = n ∧
        (∀ i, i < n → bytes[i]? = some (Memory.read s.sensor.mem (a.toNat + i))) ∧
        t.sensor = s.sensor ∧ t.trace = s.trace ++ [⟨s.params.slaveAddr, .read a n, .ok bytes⟩]) ∧
    (∀ c rest, s.replies = .err c :: rest →
      ∃ t, step s = .next t ∧ t.seq = .ready job pos (.err c) ∧ t.sensor = s.sensor ∧
        t.trace = s.trace ++ [⟨s.params.slaveAddr, .read a n, .err c⟩])

/-- R70, R72, R46, R49: what a write that the transport acknowledges, by a reply or by the sensor itself, does to the
sensor's registers. The write's own register takes the byte (`config` outside Normal mode; `ctrl_meas` where R150 gives
the effect); every other register reads as before. The model's choices in it: the sensor model's registers follow an
acknowledged write (log entry 4); the bits of `ctrl_hum` and `config` that the sensor does not use read back as
written (log entry 20); where R150 leaves a `ctrl_meas` write's effect open,
`status` may change too (log entry 7); a mode write before `measuring` has risen is not such a case (log entry 24). -/
def Obligations.WritesChangeOnlyTheirRegister : Prop :=
  ∀ (s u : State) (job : Job) (a v : Byte) (pos : Pos) (bytes : List Byte),
    Memory.wf s.sensor.mem → MovesFrom s u → s.seq = .flight job (.write a v) pos →
    nextReply s = .ok bytes → (a = 0xF2#8 ∨ a = 0xF4#8 ∨ a = 0xF5#8) →
    ∃ t, step s = .next t ∧ t.seq = .ready job pos (.ok []) ∧
      (a = 0xF2#8 → Memory.read t.sensor.mem 0xF2 = v) ∧
      (a = 0xF4#8 → s.sensor.modeWriteOpen v = false → Memory.read t.sensor.mem 0xF4 = v) ∧
      (a = 0xF5#8 → s.sensor.mode ≠ 3 → Memory.read t.sensor.mem 0xF5 = v) ∧
      (∀ b : Nat, b ≠ a.toNat → ¬ (a = 0xF4#8 ∧ b = 0xF3 ∧ s.sensor.modeWriteOpen v = true) →
        Memory.read t.sensor.mem b = Memory.read s.sensor.mem b)

/-- R46, R200: the humidity oversampling written to `ctrl_hum` acts only at the next acknowledged write to
`ctrl_meas`, whether a reply or the sensor itself acknowledges it. That the sensor model's state follows an
acknowledged write is the model's choice (log entry 4). -/
def Obligations.HumidityOversamplingIsLatched : Prop :=
  ∀ (s u : State) (job : Job) (a v : Byte) (pos : Pos) (bytes : List Byte), MovesFrom s u →
    nextReply s = .ok bytes → s.seq = .flight job (.write a v) pos →
    ∃ t, step s = .next t ∧
      (a = 0xF2#8 → t.sensor.humCtl = s.sensor.humCtl) ∧
      (a = 0xF4#8 → t.sensor.humCtl = (Memory.read s.sensor.mem 0xF2).extractLsb' 0 3)

/-- R150, R50 to R52: a forced measurement. Started in Forced mode, `measuring` rises; at its end a burst of a
measured quantity's data registers returns its reading, `measuring` falls and the mode reads Sleep. The model's part
in it (log entry 9): when it starts and ends and the readings are inputs; and a skipped quantity's data registers hold
0x80000 or 0x8000 at the end whatever they held before, where R94, R101 and R204 say only that they keep that
value. -/
def Obligations.ForcedMeasurementUpdatesTheData : Prop :=
  ∀ (x : Sensor) (rawT rawP : BitVec 20) (rawH : BitVec 16), Memory.wf x.mem →
    isForced x.mode = true → x.measuring = false →
    let ctrl := x.reg 0xF4#8
    let y := x.start
    let z := y.finish rawT rawP rawH
    y.measuring = true ∧ y.mode = x.mode ∧ z.measuring = false ∧ z.mode = 0 ∧
    adc20 [z.reg 0xFA#8, z.reg 0xFB#8, z.reg 0xFC#8] =
      (if ctrl.extractLsb' 5 3 = 0 then 0x80000#20 else rawT) ∧
    adc20 [z.reg 0xF7#8, z.reg 0xF8#8, z.reg 0xF9#8] =
      (if ctrl.extractLsb' 2 3 = 0 then 0x80000#20 else rawP) ∧
    adc16 [z.reg 0xFD#8, z.reg 0xFE#8] = (if x.humCtl = 0 then 0x8000#16 else rawH)

/-! ## Invariants -/

/-- The reset state meets the invariant, and no transaction has been made. -/
def Obligations.ResetMeetsInvariant : Prop := Consistent State.reset ∧ BusOk State.reset

/-- Every step keeps the invariant. -/
def Obligations.StepKeepsInvariant : Prop := ∀ s t : State, Consistent s → step s = .next t → Consistent t

/-- R63, R84: from a state that meets the invariant the machine always has a next step, but for a host
access that is not an aligned 32-bit word (R60) of the window (log entry 13). -/
def Obligations.OnlyMalformedHostAccessStops : Prop :=
  ∀ s : State, Consistent s →
    (∃ t, step s = .next t) ∨
    (∃ offset size rest, ¬ (size = 4 ∧ offset % 4 = 0 ∧ offset < 256) ∧
      step s = .refused (.hostAccess offset size) ∧
      ((∃ v, s.inputs = .host (.write offset size v) :: rest) ∨ s.inputs = .host (.read offset size) :: rest))

/-- R58: the block touches the sensor register space only at these addresses: every transaction put in
flight and every completed one is one of the rule's, from every state that meets the invariant. -/
def Obligations.BusTouchesOnlyTheListedAddresses : Prop :=
  ∀ s t : State, Consistent s → BusOk s → step s = .next t →
    BusOk t ∧ ∀ job q pos, t.seq = .flight job q pos → allowed q = true

/-- R207, R192: with a bounded poll and a transport that answers, every running command ends: within
2 * POLL_LIMIT + 40 steps the block is not busy. The step bound is the model's: it counts the steps of log
entry 10. -/
def Obligations.EveryCommandEnds : Prop :=
  ∀ (s : State) (limit : Nat), Consistent s → s.inputs = [] → s.params.pollLimit = some limit →
    ∃ n t, n ≤ 2 * limit + 40 ∧ Sys2Proof.core.run n s = .next t ∧ t.status.busy = false

/-! ## The agents (R7) -/

/-- R7, R20, R61, R63: each agent's step changes its own state. The host's step makes no transaction and, but for the
reset input, touches neither the sensor nor any result; the block's step touches neither the sensor nor what the host
writes; the step of the transport and the sensor touches no host-visible register. -/
def Obligations.EachAgentChangesItsOwnState : Prop :=
  ∀ s t : State, step s = .next t →
    t.params = s.params ∧
    (mover s = .host → t.trace = s.trace ∧ t.replies = s.replies ∧
      ((∃ rest, s.inputs = .host .reset :: rest) ∨
        (t.sensor = s.sensor ∧ t.result = s.result ∧ t.tfine = s.tfine ∧ t.calib = s.calib ∧
          t.scratch = s.scratch ∧ t.status.init = s.status.init ∧ t.status.calv = s.status.calv ∧
          t.status.tfv = s.status.tfv))) ∧
    (mover s = .block → t.sensor = s.sensor ∧ t.trace = s.trace ∧ t.replies = s.replies ∧
      t.hostReads = s.hostReads ∧ t.cmd = s.cmd ∧ t.arg = s.arg ∧ t.freeCount = s.freeCount ∧
      t.status.overrun = s.status.overrun) ∧
    (mover s = .transport → t.hostReads = s.hostReads ∧ t.cmd = s.cmd ∧ t.arg = s.arg ∧ t.result = s.result ∧
      t.tfine = s.tfine ∧ t.status = s.status ∧ t.calib = s.calib ∧ t.scratch = s.scratch)
end

