-- ==== Sys2Proof/Laws/Memory.lean ====
section
/-! SUPPORT. The sensor register space: read after write, and that a write keeps the canonical form. -/

namespace Sys2Proof.Machine

theorem mem_cell {a : Nat} {v : Byte} {c : Host.Cell} (h : c ∈ Memory.cell a v) :
    c = (a, v) ∧ v ≠ Memory.unlisted a := by
  unfold Memory.cell at h
  split at h <;> simp_all

theorem read_cell_append_self (a : Nat) (v : Byte) (m : Memory) (h : ∀ c ∈ m, a < c.1) :
    Memory.read (Memory.cell a v ++ m) a = v := by
  have miss : Memory.read m a = Memory.unlisted a := by
    induction m with
    | nil => rfl
    | cons c rest ih =>
      have : c.1 ≠ a := by have := h c (by simp); omega
      simp only [Memory.read, this, if_false]
      exact ih fun d hd => h d (by simp [hd])
  unfold Memory.cell
  split <;> simp_all [Memory.read]

theorem read_cell_append_ne {a b : Nat} (v : Byte) (m : Memory) (h : b ≠ a) :
    Memory.read (Memory.cell a v ++ m) b = Memory.read m b := by
  unfold Memory.cell
  split
  · simp
  · simp [Memory.read, Ne.symm h]

/-- Every cell of a written memory is an old cell or the new one. -/
theorem mem_put {m : Memory} {a : Nat} {v : Byte} {c : Host.Cell} (h : c ∈ Memory.put m a v) :
    c ∈ m ∨ (c = (a, v) ∧ v ≠ Memory.unlisted a) := by
  induction m with
  | nil => exact .inr (mem_cell h)
  | cons d rest ih =>
    simp only [Memory.put] at h
    split at h
    · rcases List.mem_append.mp h with h | h
      · exact .inr (mem_cell h)
      · exact .inl h
    · split at h
      · rcases List.mem_append.mp h with h | h
        · exact .inr (mem_cell h)
        · exact .inl (List.mem_cons_of_mem _ h)
      · rcases List.mem_cons.mp h with h | h
        · exact .inl (by simp [h])
        · rcases ih h with h | h
          · exact .inl (List.mem_cons_of_mem _ h)
          · exact .inr h

/-- A write keeps the canonical form. -/
theorem put_wf {m : Memory} {a : Nat} {v : Byte} (hm : Memory.wf m) (ha : a < 256) :
    Memory.wf (Memory.put m a v) := by
  refine ⟨?_, fun c hc => ?_⟩
  · induction m with
    | nil =>
      simp only [Memory.put, Memory.cell]
      split <;> simp
    | cons d rest ih =>
      obtain ⟨hsort, hcells⟩ := hm
      rw [List.pairwise_cons] at hsort
      simp only [Memory.put]
      split
      · rw [List.pairwise_append]
        refine ⟨by unfold Memory.cell; split <;> simp, List.pairwise_cons.mpr hsort, fun c hc e he => ?_⟩
        rw [(mem_cell hc).1]
        rcases List.mem_cons.mp he with rfl | he
        · assumption
        · exact Nat.lt_trans ‹a < d.1› (hsort.1 e he)
      · split
        · rw [List.pairwise_append]
          refine ⟨by unfold Memory.cell; split <;> simp, hsort.2, fun c hc e he => ?_⟩
          rw [(mem_cell hc).1]
          have := hsort.1 e he
          simp only at *
          omega
        · refine List.pairwise_cons.mpr ⟨fun c hc => ?_, ih ⟨hsort.2, fun c hc => hcells c (by simp [hc])⟩⟩
          rcases mem_put hc with hc | ⟨rfl, -⟩
          · exact hsort.1 c hc
          · simp only; omega
  · rcases mem_put hc with hc | ⟨rfl, hv⟩
    · exact hm.2 c hc
    · exact ⟨ha, hv⟩

/-- Reading back what was written. -/
theorem read_put_self {m : Memory} (hm : Memory.wf m) (a : Nat) (v : Byte) :
    Memory.read (Memory.put m a v) a = v := by
  induction m with
  | nil => simpa [Memory.put] using read_cell_append_self a v [] (by simp)
  | cons d rest ih =>
    have hsort := List.pairwise_cons.mp hm.1
    simp only [Memory.put]
    split
    · refine read_cell_append_self a v _ fun c hc => ?_
      rcases List.mem_cons.mp hc with rfl | hc
      · assumption
      · exact Nat.lt_trans ‹a < d.1› (hsort.1 c hc)
    · split
      · exact read_cell_append_self a v _ fun c hc => by have := hsort.1 c hc; omega
      · have : d.1 ≠ a := by omega
        simpa [Memory.read, this] using ih ⟨hsort.2, fun c hc => hm.2 c (by simp [hc])⟩

/-- A write leaves every other register alone. -/
theorem read_put_ne (m : Memory) {a b : Nat} (v : Byte) (h : b ≠ a) :
    Memory.read (Memory.put m a v) b = Memory.read m b := by
  induction m with
  | nil => simpa [Memory.put] using read_cell_append_ne v [] h
  | cons d rest ih =>
    simp only [Memory.put]
    split
    · exact read_cell_append_ne v _ h
    · split
      · rw [read_cell_append_ne v _ h]
        have : d.1 ≠ b := by omega
        simp [Memory.read, this]
      · simp only [Memory.read, ih]

/-- Dropping registers keeps the canonical form. -/
theorem filter_wf {m : Memory} (p : Host.Cell → Bool) (hm : Memory.wf m) : Memory.wf (m.filter p) :=
  ⟨hm.1.filter p, fun c hc => hm.2 c (List.mem_of_mem_filter hc)⟩

end Sys2Proof.Machine
end

