-- ==== Sys2Proof/Laws/State.lean ====
section
/-! SUPPORT. One lemma per field for each shared update of the state: what it writes, and that it leaves
every other field alone. True by unfolding, so that no later proof unfolds a record update. -/

namespace Sys2Proof.Machine

/-! ### `accept`: Acceptance of a command (R85). -/

@[simp] theorem accept_cmd (w : Word) (s : State) : (accept w s).cmd = w.extractLsb' 0 16 := rfl
@[simp] theorem accept_arg (w : Word) (s : State) : (accept w s).arg = s.arg := rfl
@[simp] theorem accept_result (w : Word) (s : State) : (accept w s).result = s.result := rfl
@[simp] theorem accept_tfine (w : Word) (s : State) : (accept w s).tfine = s.tfine := rfl
@[simp] theorem accept_status (w : Word) (s : State) : (accept w s).status = s.status.accepted := rfl
@[simp] theorem accept_calib (w : Word) (s : State) : (accept w s).calib = s.calib := rfl
@[simp] theorem accept_scratch (w : Word) (s : State) : (accept w s).scratch = s.scratch := rfl
@[simp] theorem accept_seq (w : Word) (s : State) : (accept w s).seq = .start ⟨w, s.arg, 0, 0, []⟩ := rfl
@[simp] theorem accept_params (w : Word) (s : State) : (accept w s).params = s.params := rfl
@[simp] theorem accept_sensor (w : Word) (s : State) : (accept w s).sensor = s.sensor := rfl
@[simp] theorem accept_replies (w : Word) (s : State) : (accept w s).replies = s.replies := rfl
@[simp] theorem accept_inputs (w : Word) (s : State) : (accept w s).inputs = s.inputs := rfl
@[simp] theorem accept_hostReads (w : Word) (s : State) : (accept w s).hostReads = s.hostReads := rfl
@[simp] theorem accept_trace (w : Word) (s : State) : (accept w s).trace = s.trace := rfl
@[simp] theorem accept_freeCount (w : Word) (s : State) : (accept w s).freeCount = s.freeCount := rfl

/-! ### `dropped`: A dropped command write (R86). -/

@[simp] theorem dropped_cmd (s : State) : (dropped s).cmd = s.cmd := rfl
@[simp] theorem dropped_arg (s : State) : (dropped s).arg = s.arg := rfl
@[simp] theorem dropped_result (s : State) : (dropped s).result = s.result := rfl
@[simp] theorem dropped_tfine (s : State) : (dropped s).tfine = s.tfine := rfl
@[simp] theorem dropped_status (s : State) : (dropped s).status = { s.status with overrun := true } := rfl
@[simp] theorem dropped_calib (s : State) : (dropped s).calib = s.calib := rfl
@[simp] theorem dropped_scratch (s : State) : (dropped s).scratch = s.scratch := rfl
@[simp] theorem dropped_seq (s : State) : (dropped s).seq = s.seq := rfl
@[simp] theorem dropped_params (s : State) : (dropped s).params = s.params := rfl
@[simp] theorem dropped_sensor (s : State) : (dropped s).sensor = s.sensor := rfl
@[simp] theorem dropped_replies (s : State) : (dropped s).replies = s.replies := rfl
@[simp] theorem dropped_inputs (s : State) : (dropped s).inputs = s.inputs := rfl
@[simp] theorem dropped_hostReads (s : State) : (dropped s).hostReads = s.hostReads := rfl
@[simp] theorem dropped_trace (s : State) : (dropped s).trace = s.trace := rfl
@[simp] theorem dropped_freeCount (s : State) : (dropped s).freeCount = s.freeCount := rfl

/-! ### `issue`: Issuing a transaction (R16). -/

@[simp] theorem issue_cmd (job : Job) (q : Request) (pos : Pos) (s : State) : (issue job q pos s).cmd = s.cmd := rfl
@[simp] theorem issue_arg (job : Job) (q : Request) (pos : Pos) (s : State) : (issue job q pos s).arg = s.arg := rfl
@[simp] theorem issue_result (job : Job) (q : Request) (pos : Pos) (s : State) : (issue job q pos s).result = s.result := rfl
@[simp] theorem issue_tfine (job : Job) (q : Request) (pos : Pos) (s : State) : (issue job q pos s).tfine = s.tfine := rfl
@[simp] theorem issue_status (job : Job) (q : Request) (pos : Pos) (s : State) : (issue job q pos s).status = s.status := rfl
@[simp] theorem issue_calib (job : Job) (q : Request) (pos : Pos) (s : State) : (issue job q pos s).calib = s.calib := rfl
@[simp] theorem issue_scratch (job : Job) (q : Request) (pos : Pos) (s : State) : (issue job q pos s).scratch = s.scratch := rfl
@[simp] theorem issue_seq (job : Job) (q : Request) (pos : Pos) (s : State) : (issue job q pos s).seq = .flight job q pos := rfl
@[simp] theorem issue_params (job : Job) (q : Request) (pos : Pos) (s : State) : (issue job q pos s).params = s.params := rfl
@[simp] theorem issue_sensor (job : Job) (q : Request) (pos : Pos) (s : State) : (issue job q pos s).sensor = s.sensor := rfl
@[simp] theorem issue_replies (job : Job) (q : Request) (pos : Pos) (s : State) : (issue job q pos s).replies = s.replies := rfl
@[simp] theorem issue_inputs (job : Job) (q : Request) (pos : Pos) (s : State) : (issue job q pos s).inputs = s.inputs := rfl
@[simp] theorem issue_hostReads (job : Job) (q : Request) (pos : Pos) (s : State) : (issue job q pos s).hostReads = s.hostReads := rfl
@[simp] theorem issue_trace (job : Job) (q : Request) (pos : Pos) (s : State) : (issue job q pos s).trace = s.trace := rfl
@[simp] theorem issue_freeCount (job : Job) (q : Request) (pos : Pos) (s : State) : (issue job q pos s).freeCount = s.freeCount := rfl

/-! ### `complete`: The normal end of a command (R84). -/

@[simp] theorem complete_cmd (s : State) : (complete s).cmd = s.cmd := rfl
@[simp] theorem complete_arg (s : State) : (complete s).arg = s.arg := rfl
@[simp] theorem complete_result (s : State) : (complete s).result = s.result := rfl
@[simp] theorem complete_tfine (s : State) : (complete s).tfine = s.tfine := rfl
@[simp] theorem complete_status (s : State) : (complete s).status = s.status.completed := rfl
@[simp] theorem complete_calib (s : State) : (complete s).calib = s.calib := rfl
@[simp] theorem complete_scratch (s : State) : (complete s).scratch = s.scratch := rfl
@[simp] theorem complete_seq (s : State) : (complete s).seq = .idle := rfl
@[simp] theorem complete_params (s : State) : (complete s).params = s.params := rfl
@[simp] theorem complete_sensor (s : State) : (complete s).sensor = s.sensor := rfl
@[simp] theorem complete_replies (s : State) : (complete s).replies = s.replies := rfl
@[simp] theorem complete_inputs (s : State) : (complete s).inputs = s.inputs := rfl
@[simp] theorem complete_hostReads (s : State) : (complete s).hostReads = s.hostReads := rfl
@[simp] theorem complete_trace (s : State) : (complete s).trace = s.trace := rfl
@[simp] theorem complete_freeCount (s : State) : (complete s).freeCount = s.freeCount := rfl

/-! ### `raise`: The end of a command by an error (R176). -/

@[simp] theorem raise_cmd (e : Error) (s : State) : (raise e s).cmd = s.cmd := rfl
@[simp] theorem raise_arg (e : Error) (s : State) : (raise e s).arg = s.arg := rfl
@[simp] theorem raise_result (e : Error) (s : State) : (raise e s).result = s.result := rfl
@[simp] theorem raise_tfine (e : Error) (s : State) : (raise e s).tfine = s.tfine := rfl
@[simp] theorem raise_status (e : Error) (s : State) : (raise e s).status = s.status.failed e := rfl
@[simp] theorem raise_calib (e : Error) (s : State) : (raise e s).calib = s.calib := rfl
@[simp] theorem raise_scratch (e : Error) (s : State) : (raise e s).scratch = s.scratch := rfl
@[simp] theorem raise_seq (e : Error) (s : State) : (raise e s).seq = .idle := rfl
@[simp] theorem raise_params (e : Error) (s : State) : (raise e s).params = s.params := rfl
@[simp] theorem raise_sensor (e : Error) (s : State) : (raise e s).sensor = s.sensor := rfl
@[simp] theorem raise_replies (e : Error) (s : State) : (raise e s).replies = s.replies := rfl
@[simp] theorem raise_inputs (e : Error) (s : State) : (raise e s).inputs = s.inputs := rfl
@[simp] theorem raise_hostReads (e : Error) (s : State) : (raise e s).hostReads = s.hostReads := rfl
@[simp] theorem raise_trace (e : Error) (s : State) : (raise e s).trace = s.trace := rfl
@[simp] theorem raise_freeCount (e : Error) (s : State) : (raise e s).freeCount = s.freeCount := rfl

/-! ### `noteStep`: Noting the failing profile step (R143). -/

@[simp] theorem noteStep_cmd (k : ProfileStep) (s : State) : (noteStep k s).cmd = s.cmd := rfl
@[simp] theorem noteStep_arg (k : ProfileStep) (s : State) : (noteStep k s).arg = s.arg := rfl
@[simp] theorem noteStep_result (k : ProfileStep) (s : State) : (noteStep k s).result = s.result := rfl
@[simp] theorem noteStep_tfine (k : ProfileStep) (s : State) : (noteStep k s).tfine = s.tfine := rfl
@[simp] theorem noteStep_status (k : ProfileStep) (s : State) : (noteStep k s).status = { s.status with errStep := k.index } := rfl
@[simp] theorem noteStep_calib (k : ProfileStep) (s : State) : (noteStep k s).calib = s.calib := rfl
@[simp] theorem noteStep_scratch (k : ProfileStep) (s : State) : (noteStep k s).scratch = s.scratch := rfl
@[simp] theorem noteStep_seq (k : ProfileStep) (s : State) : (noteStep k s).seq = s.seq := rfl
@[simp] theorem noteStep_params (k : ProfileStep) (s : State) : (noteStep k s).params = s.params := rfl
@[simp] theorem noteStep_sensor (k : ProfileStep) (s : State) : (noteStep k s).sensor = s.sensor := rfl
@[simp] theorem noteStep_replies (k : ProfileStep) (s : State) : (noteStep k s).replies = s.replies := rfl
@[simp] theorem noteStep_inputs (k : ProfileStep) (s : State) : (noteStep k s).inputs = s.inputs := rfl
@[simp] theorem noteStep_hostReads (k : ProfileStep) (s : State) : (noteStep k s).hostReads = s.hostReads := rfl
@[simp] theorem noteStep_trace (k : ProfileStep) (s : State) : (noteStep k s).trace = s.trace := rfl
@[simp] theorem noteStep_freeCount (k : ProfileStep) (s : State) : (noteStep k s).freeCount = s.freeCount := rfl

/-! ### `storeTFine`: A temperature compensation's writes (R122). -/

@[simp] theorem storeTFine_cmd (v : Word) (s : State) : (storeTFine v s).cmd = s.cmd := rfl
@[simp] theorem storeTFine_arg (v : Word) (s : State) : (storeTFine v s).arg = s.arg := rfl
@[simp] theorem storeTFine_result (v : Word) (s : State) : (storeTFine v s).result = s.result := rfl
@[simp] theorem storeTFine_tfine (v : Word) (s : State) : (storeTFine v s).tfine = v := rfl
@[simp] theorem storeTFine_status (v : Word) (s : State) : (storeTFine v s).status = { s.status with tfv := true } := rfl
@[simp] theorem storeTFine_calib (v : Word) (s : State) : (storeTFine v s).calib = s.calib := rfl
@[simp] theorem storeTFine_scratch (v : Word) (s : State) : (storeTFine v s).scratch = s.scratch := rfl
@[simp] theorem storeTFine_seq (v : Word) (s : State) : (storeTFine v s).seq = s.seq := rfl
@[simp] theorem storeTFine_params (v : Word) (s : State) : (storeTFine v s).params = s.params := rfl
@[simp] theorem storeTFine_sensor (v : Word) (s : State) : (storeTFine v s).sensor = s.sensor := rfl
@[simp] theorem storeTFine_replies (v : Word) (s : State) : (storeTFine v s).replies = s.replies := rfl
@[simp] theorem storeTFine_inputs (v : Word) (s : State) : (storeTFine v s).inputs = s.inputs := rfl
@[simp] theorem storeTFine_hostReads (v : Word) (s : State) : (storeTFine v s).hostReads = s.hostReads := rfl
@[simp] theorem storeTFine_trace (v : Word) (s : State) : (storeTFine v s).trace = s.trace := rfl
@[simp] theorem storeTFine_freeCount (v : Word) (s : State) : (storeTFine v s).freeCount = s.freeCount := rfl

/-! ### `storeResult`: A result write (R26). -/

@[simp] theorem storeResult_cmd (v : Word) (s : State) : (storeResult v s).cmd = s.cmd := rfl
@[simp] theorem storeResult_arg (v : Word) (s : State) : (storeResult v s).arg = s.arg := rfl
@[simp] theorem storeResult_result (v : Word) (s : State) : (storeResult v s).result = v := rfl
@[simp] theorem storeResult_tfine (v : Word) (s : State) : (storeResult v s).tfine = s.tfine := rfl
@[simp] theorem storeResult_status (v : Word) (s : State) : (storeResult v s).status = s.status := rfl
@[simp] theorem storeResult_calib (v : Word) (s : State) : (storeResult v s).calib = s.calib := rfl
@[simp] theorem storeResult_scratch (v : Word) (s : State) : (storeResult v s).scratch = s.scratch := rfl
@[simp] theorem storeResult_seq (v : Word) (s : State) : (storeResult v s).seq = s.seq := rfl
@[simp] theorem storeResult_params (v : Word) (s : State) : (storeResult v s).params = s.params := rfl
@[simp] theorem storeResult_sensor (v : Word) (s : State) : (storeResult v s).sensor = s.sensor := rfl
@[simp] theorem storeResult_replies (v : Word) (s : State) : (storeResult v s).replies = s.replies := rfl
@[simp] theorem storeResult_inputs (v : Word) (s : State) : (storeResult v s).inputs = s.inputs := rfl
@[simp] theorem storeResult_hostReads (v : Word) (s : State) : (storeResult v s).hostReads = s.hostReads := rfl
@[simp] theorem storeResult_trace (v : Word) (s : State) : (storeResult v s).trace = s.trace := rfl
@[simp] theorem storeResult_freeCount (v : Word) (s : State) : (storeResult v s).freeCount = s.freeCount := rfl

/-! ### `storePressure`: A pressure compensation's writes (R123). -/

@[simp] theorem storePressure_cmd (r : Word × Bool) (s : State) : (storePressure r s).cmd = s.cmd := rfl
@[simp] theorem storePressure_arg (r : Word × Bool) (s : State) : (storePressure r s).arg = s.arg := rfl
@[simp] theorem storePressure_result (r : Word × Bool) (s : State) : (storePressure r s).result = r.1 := rfl
@[simp] theorem storePressure_tfine (r : Word × Bool) (s : State) : (storePressure r s).tfine = s.tfine := rfl
@[simp] theorem storePressure_status (r : Word × Bool) (s : State) : (storePressure r s).status = { s.status with pguard := r.2 } := rfl
@[simp] theorem storePressure_calib (r : Word × Bool) (s : State) : (storePressure r s).calib = s.calib := rfl
@[simp] theorem storePressure_scratch (r : Word × Bool) (s : State) : (storePressure r s).scratch = s.scratch := rfl
@[simp] theorem storePressure_seq (r : Word × Bool) (s : State) : (storePressure r s).seq = s.seq := rfl
@[simp] theorem storePressure_params (r : Word × Bool) (s : State) : (storePressure r s).params = s.params := rfl
@[simp] theorem storePressure_sensor (r : Word × Bool) (s : State) : (storePressure r s).sensor = s.sensor := rfl
@[simp] theorem storePressure_replies (r : Word × Bool) (s : State) : (storePressure r s).replies = s.replies := rfl
@[simp] theorem storePressure_inputs (r : Word × Bool) (s : State) : (storePressure r s).inputs = s.inputs := rfl
@[simp] theorem storePressure_hostReads (r : Word × Bool) (s : State) : (storePressure r s).hostReads = s.hostReads := rfl
@[simp] theorem storePressure_trace (r : Word × Bool) (s : State) : (storePressure r s).trace = s.trace := rfl
@[simp] theorem storePressure_freeCount (r : Word × Bool) (s : State) : (storePressure r s).freeCount = s.freeCount := rfl

/-! ### `zeroScratch`: Zeroing the scratch buffer (R154). -/

@[simp] theorem zeroScratch_cmd (s : State) : (zeroScratch s).cmd = s.cmd := rfl
@[simp] theorem zeroScratch_arg (s : State) : (zeroScratch s).arg = s.arg := rfl
@[simp] theorem zeroScratch_result (s : State) : (zeroScratch s).result = s.result := rfl
@[simp] theorem zeroScratch_tfine (s : State) : (zeroScratch s).tfine = s.tfine := rfl
@[simp] theorem zeroScratch_status (s : State) : (zeroScratch s).status = s.status := rfl
@[simp] theorem zeroScratch_calib (s : State) : (zeroScratch s).calib = s.calib := rfl
@[simp] theorem zeroScratch_scratch (s : State) : (zeroScratch s).scratch = List.replicate 33 0 := rfl
@[simp] theorem zeroScratch_seq (s : State) : (zeroScratch s).seq = s.seq := rfl
@[simp] theorem zeroScratch_params (s : State) : (zeroScratch s).params = s.params := rfl
@[simp] theorem zeroScratch_sensor (s : State) : (zeroScratch s).sensor = s.sensor := rfl
@[simp] theorem zeroScratch_replies (s : State) : (zeroScratch s).replies = s.replies := rfl
@[simp] theorem zeroScratch_inputs (s : State) : (zeroScratch s).inputs = s.inputs := rfl
@[simp] theorem zeroScratch_hostReads (s : State) : (zeroScratch s).hostReads = s.hostReads := rfl
@[simp] theorem zeroScratch_trace (s : State) : (zeroScratch s).trace = s.trace := rfl
@[simp] theorem zeroScratch_freeCount (s : State) : (zeroScratch s).freeCount = s.freeCount := rfl

end Sys2Proof.Machine
end

