-- ==== Sys2Proof/Laws/Ops.lean ====
section
/-! SUPPORT. What each shared operation can do, said once: later proofs cite these and do not unfold. -/

namespace Sys2Proof.Machine

/-- Everything one block step can do (R84, R194). -/
theorem blockStep_cases {check : Job → Option Error} {start : Job → State}
    {resume : Job → Pos → Answer → Option State} {s t : State}
    (h : blockStep check start resume s = .next t) :
    (s.seq = .idle ∧ t = s) ∨
    (∃ job q pos, s.seq = .flight job q pos ∧ t = s) ∨
    (∃ job e, s.seq = .start job ∧ check job = some e ∧ t = raise e s) ∨
    (∃ job, s.seq = .start job ∧ check job = none ∧ t = start job) ∨
    (∃ job pos ans, s.seq = .ready job pos ans ∧ resume job pos ans = some t) := by
  unfold blockStep at h
  split at h
  · next hs => exact .inl ⟨hs, by cases h; rfl⟩
  · next job q pos hs => exact .inr (.inl ⟨job, q, pos, hs, by cases h; rfl⟩)
  · next job hs =>
    split at h
    · next e he => exact .inr (.inr (.inl ⟨job, e, hs, he, by cases h; rfl⟩))
    · next he => exact .inr (.inr (.inr (.inl ⟨job, hs, he, by cases h; rfl⟩)))
  · next job pos ans hs =>
    split at h
    · next u hu => exact .inr (.inr (.inr (.inr ⟨job, pos, ans, hs, by cases h; exact hu⟩)))
    · cases h

@[simp] theorem blockStep_idle {check : Job → Option Error} {start : Job → State}
    {resume : Job → Pos → Answer → Option State} {s : State} (hs : s.seq = .idle) :
    blockStep check start resume s = .next s := by
  simp [blockStep, hs]

theorem blockStep_start {check : Job → Option Error} {start : Job → State}
    {resume : Job → Pos → Answer → Option State} {s : State} {job : Job} (hs : s.seq = .start job)
    (hc : check job = none) : blockStep check start resume s = .next (start job) := by
  simp [blockStep, hs, hc]

theorem blockStep_start_error {check : Job → Option Error} {start : Job → State}
    {resume : Job → Pos → Answer → Option State} {s : State} {job : Job} {e : Error}
    (hs : s.seq = .start job) (hc : check job = some e) :
    blockStep check start resume s = .next (raise e s) := by
  simp [blockStep, hs, hc]

theorem blockStep_ready {check : Job → Option Error} {start : Job → State}
    {resume : Job → Pos → Answer → Option State} {s t : State} {job : Job} {pos : Pos} {ans : Answer}
    (hs : s.seq = .ready job pos ans) (hr : resume job pos ans = some t) :
    blockStep check start resume s = .next t := by
  simp [blockStep, hs, hr]

/-- `or fail` either goes on with the bytes of an `Ok` or raises the transport's error (R14). -/
theorem orFail_cases (ans : Answer) (s : State) (go : List Byte → State) :
    (∃ bytes, ans = .ok bytes ∧ orFail ans s go = go bytes) ∨
    (∃ code, ans = .err code ∧ orFail ans s go = raise (.transport code) s) := by
  cases ans with
  | ok bytes => exact .inl ⟨bytes, rfl, rfl⟩
  | err code => exact .inr ⟨code, rfl, rfl⟩

/-- The first step's checks pass exactly when none of them fails (R180). -/
theorem firstError_none {legal needsInit needsTfine : Bool} {s : State} :
    firstError legal needsInit needsTfine s = none ↔
      legal = true ∧ (needsInit = true → s.status.init = true) ∧
        (needsTfine = true → s.status.tfv = true) := by
  unfold firstError
  cases legal <;> cases needsInit <;> cases needsTfine <;> cases hi : s.status.init <;>
    cases ht : s.status.tfv <;> simp

/-- The poll loop either times out or issues one more status read (R158). -/
theorem pollLoop_cases (job : Job) (s : State) :
    (s.params.pollLimit = some job.pollCount ∧ pollLoop job s = raise .timeout s) ∨
    (s.params.pollLimit ≠ some job.pollCount ∧ pollLoop job s = issue job (.read regStatus 1) .poll s) := by
  unfold pollLoop
  split
  · exact .inl ⟨‹_›, rfl⟩
  · exact .inr ⟨‹_›, rfl⟩

/-- The answer to a read brings as many bytes as were asked for, to a write none (R14, R63). -/
theorem answerOf_length {q : Request} {r : Reply} {x : Sensor} {bytes : List Byte}
    (h : answerOf q r x = .ok bytes) :
    bytes.length = match q with
      | .read _ n => n
      | .write _ _ => 0 := by
  unfold answerOf at h
  split at h
  · cases h
  · cases h; simp [readBytes]
  · cases h; rfl

/-- Writing into a buffer inside its length keeps its length. -/
theorem putBytes_length {buf src : List Byte} {off : Nat} (h : off + src.length ≤ buf.length) :
    (putBytes buf off src).length = buf.length := by
  simp [putBytes]
  omega

end Sys2Proof.Machine
end

