-- ==== Sys2Proof/Laws/PerInstr.lean ====
section
/-! SUPPORT. Per-command facts about the command word. Family `WordFields`: the three fields of a
command's word are the zero field, its argument byte and its opcode (R80), and the opcode map gives the
command back. -/

namespace Sys2Proof.Laws.WordFields

/-- The fields of the encoded word (R80), and what R82 maps them to. -/
def Statement (i : Instr) : Prop :=
  zeroField (encode i) = 0 ∧ argField (encode i) = i.arg ∧ opField (encode i) = i.op ∧
    opcodeMap i.op i.arg = some (i.argNamed, i)

theorem zeroField_encode (i : Instr) : zeroField (encode i) = 0 := by
  apply BitVec.eq_of_getLsbD_eq
  intro k hk
  have ha : i.arg.getLsbD (16 + k - 8) = false := BitVec.getLsbD_of_ge _ _ (by omega)
  have ho : i.op.getLsbD (16 + k) = false := BitVec.getLsbD_of_ge _ _ (by omega)
  simp [zeroField, encode, ha, ho]

theorem argField_encode (i : Instr) : argField (encode i) = i.arg := by
  apply BitVec.eq_of_getLsbD_eq
  intro k hk
  have : 8 + k < 32 ∧ ¬ 8 + k < 8 := by omega
  simp [argField, encode, this, hk]

theorem opField_encode (i : Instr) : opField (encode i) = i.op := by
  apply BitVec.eq_of_getLsbD_eq
  intro k hk
  have : k < 32 := by omega
  simp [opField, encode, this, hk]

theorem init : Statement .init := ⟨zeroField_encode _, argField_encode _, opField_encode _, rfl⟩
theorem getT : Statement .getT := ⟨zeroField_encode _, argField_encode _, opField_encode _, rfl⟩
theorem getP : Statement .getP := ⟨zeroField_encode _, argField_encode _, opField_encode _, rfl⟩
theorem getH : Statement .getH := ⟨zeroField_encode _, argField_encode _, opField_encode _, rfl⟩
theorem compT : Statement .compT := ⟨zeroField_encode _, argField_encode _, opField_encode _, rfl⟩
theorem compP : Statement .compP := ⟨zeroField_encode _, argField_encode _, opField_encode _, rfl⟩
theorem compH : Statement .compH := ⟨zeroField_encode _, argField_encode _, opField_encode _, rfl⟩
theorem setOsrsT (arg : Byte) : Statement (.setOsrsT arg) :=
  ⟨zeroField_encode _, argField_encode _, opField_encode _, rfl⟩
theorem setOsrsP (arg : Byte) : Statement (.setOsrsP arg) :=
  ⟨zeroField_encode _, argField_encode _, opField_encode _, rfl⟩
theorem setOsrsH (arg : Byte) : Statement (.setOsrsH arg) :=
  ⟨zeroField_encode _, argField_encode _, opField_encode _, rfl⟩
theorem setFilter (arg : Byte) : Statement (.setFilter arg) :=
  ⟨zeroField_encode _, argField_encode _, opField_encode _, rfl⟩
theorem setStandby (arg : Byte) : Statement (.setStandby arg) :=
  ⟨zeroField_encode _, argField_encode _, opField_encode _, rfl⟩
theorem setMode (arg : Byte) : Statement (.setMode arg) :=
  ⟨zeroField_encode _, argField_encode _, opField_encode _, rfl⟩
theorem getMode : Statement .getMode := ⟨zeroField_encode _, argField_encode _, opField_encode _, rfl⟩
theorem applyProfile (arg : Byte) : Statement (.applyProfile arg) :=
  ⟨zeroField_encode _, argField_encode _, opField_encode _, rfl⟩

end Sys2Proof.Laws.WordFields
end

