-- ==== Sys2Proof/Laws/Sensor.lean ====
section
/-! SUPPORT. The sensor agent: every one of its operations keeps the canonical form of its registers. -/

namespace Sys2Proof.Machine

theorem Sensor.put_wf {x : Sensor} (a v : Byte) (h : Memory.wf x.mem) : Memory.wf (x.put a v).mem :=
  Sys2Proof.Machine.put_wf h a.isLt

@[simp] theorem Sensor.latch_mem (x : Sensor) : x.latch.mem = x.mem := rfl

theorem Sensor.reg_put_self {x : Sensor} (h : Memory.wf x.mem) (a v : Byte) : (x.put a v).reg a = v :=
  read_put_self h a.toNat v

theorem Sensor.reg_put_ne (x : Sensor) {a b : Byte} (v : Byte) (h : b ≠ a) :
    (x.put a v).reg b = x.reg b :=
  read_put_ne x.mem v fun e => h (BitVec.eq_of_toNat_eq e)

theorem Sensor.setMeasuring_wf {x : Sensor} (on : Bool) (h : Memory.wf x.mem) :
    Memory.wf (x.setMeasuring on).mem :=
  Sensor.put_wf _ _ h

theorem Sensor.disturb_wf {x : Sensor} (a v : Byte) (h : Memory.wf x.mem) : Memory.wf (x.disturb a v).mem := by
  unfold Sensor.disturb
  split
  · exact h
  · exact Sensor.put_wf _ _ h

theorem Sensor.powerOn_wf {x : Sensor} (h : Memory.wf x.mem) : Memory.wf x.powerOn.mem :=
  filter_wf _ h

theorem Sensor.writeCtrlMeas_wf {x : Sensor} (free : Nat) (v : Byte) (h : Memory.wf x.mem) :
    Memory.wf (x.writeCtrlMeas free v).mem := by
  unfold Sensor.writeCtrlMeas
  dsimp only
  split
  · refine Sensor.setMeasuring_wf _ ?_
    split
    · exact Sensor.put_wf _ _ h
    · exact Sensor.put_wf _ _ h
  · exact Sensor.put_wf _ _ h

theorem Sensor.write_wf {x : Sensor} (free : Nat) (a v : Byte) (h : Memory.wf x.mem) :
    Memory.wf (x.write free a v).mem := by
  unfold Sensor.write
  split
  · exact Sensor.put_wf _ _ h
  · split
    · exact Sensor.writeCtrlMeas_wf _ _ h
    · split
      · split
        · exact h
        · exact Sensor.put_wf _ _ h
      · split
        · split
          · exact Sensor.powerOn_wf h
          · exact h
        · exact h

theorem Sensor.lostWrite_wf {x : Sensor} (free : Nat) (a : Byte) (h : Memory.wf x.mem) :
    Memory.wf (x.lostWrite free a).mem := by
  unfold Sensor.lostWrite
  dsimp only
  split
  · refine Sensor.setMeasuring_wf _ ?_
    split
    · exact Sensor.put_wf _ _ h
    · exact Sensor.put_wf _ _ h
  · exact Sensor.put_wf _ _ h

theorem Sensor.start_wf {x : Sensor} (h : Memory.wf x.mem) : Memory.wf x.start.mem := by
  unfold Sensor.start
  split
  · exact h
  · exact Sensor.setMeasuring_wf _ h

theorem Sensor.putRaw20_wf {x : Sensor} (a : Byte) (raw : BitVec 20) (h : Memory.wf x.mem) :
    Memory.wf (x.putRaw20 a raw).mem :=
  Sensor.put_wf _ _ (Sensor.put_wf _ _ (Sensor.put_wf _ _ h))

theorem Sensor.putRaw16_wf {x : Sensor} (a : Byte) (raw : BitVec 16) (h : Memory.wf x.mem) :
    Memory.wf (x.putRaw16 a raw).mem :=
  Sensor.put_wf _ _ (Sensor.put_wf _ _ h)

theorem Sensor.finish_wf {x : Sensor} (rawT rawP : BitVec 20) (rawH : BitVec 16) (h : Memory.wf x.mem) :
    Memory.wf (x.finish rawT rawP rawH).mem := by
  unfold Sensor.finish
  split
  · have hy := Sensor.setMeasuring_wf false (Sensor.putRaw16_wf regHum (if x.liveH then rawH else 0x8000#16)
      (Sensor.putRaw20_wf regPress (if x.liveP then rawP else 0x80000#20)
        (Sensor.putRaw20_wf regTemp (if x.liveT then rawT else 0x80000#20) h)))
    dsimp only
    split
    · exact Sensor.put_wf _ _ hy
    · exact hy
  · exact h

theorem Sensor.move_wf {x : Sensor} (m : SensorMove) (h : Memory.wf x.mem) : Memory.wf (x.move m).mem := by
  cases m with
  | start => exact Sensor.start_wf h
  | finish rawT rawP rawH => exact Sensor.finish_wf rawT rawP rawH h
  | reset => exact Sensor.powerOn_wf h
  | disturb a v => exact Sensor.disturb_wf a v h

/-- Whatever a transaction does to the sensor, its registers stay in canonical form. -/
theorem sensorAfter_wf {x : Sensor} (q : Request) (r : Reply) (free : Nat) (h : Memory.wf x.mem) :
    Memory.wf (sensorAfter q r free x).mem := by
  unfold sensorAfter
  split
  · exact h
  · exact Sensor.write_wf _ _ _ h
  · exact Sensor.lostWrite_wf _ _ h

theorem sensorAbandoned_wf {s : State} (h : Memory.wf s.sensor.mem) :
    Memory.wf (sensorAbandoned s).mem := by
  unfold sensorAbandoned
  split
  · exact Sensor.lostWrite_wf _ _ h
  · exact h

end Sys2Proof.Machine
end

