-- ==== Sys2Proof/Laws/Step.lean ====
section
/-! SUPPORT. The machine's step, agent by agent: what `step` is when the running script moves, and everything a
step can do, said once. -/

namespace Sys2Proof.Machine

open Sys2Proof.Safety

@[simp] theorem turn_idle {s : State} (h : s.seq = .idle) : turn s = .block := by simp [turn, h]

@[simp] theorem turn_start {s : State} {job : Job} (h : s.seq = .start job) : turn s = .block := by
  simp [turn, h]

@[simp] theorem turn_ready {s : State} {job : Job} {pos : Pos} {ans : Answer} (h : s.seq = .ready job pos ans) :
    turn s = .block := by
  simp [turn, h]

@[simp] theorem turn_flight {s : State} {job : Job} {q : Request} {pos : Pos} (h : s.seq = .flight job q pos) :
    turn s = .transport := by
  simp [turn, h]

/-- Where the script moves from differs from the state in its inputs only. -/
theorem movesFrom_seq {s u : State} (h : MovesFrom s u) : u.seq = s.seq ∧ u = { s with inputs := u.inputs } := by
  rcases h with ⟨-, rfl⟩ | ⟨rest, -, rfl⟩ | ⟨rest, -, -, rfl⟩ <;> exact ⟨rfl, rfl⟩

/-- The script's move is the block's or the transport's. -/
theorem step_of_movesFrom {s u : State} (h : MovesFrom s u) :
    mover s = turn s ∧ step s = match turn s with
      | .host => hostTurn s
      | .block => blockTurn u
      | .transport => answerTurn u := by
  rcases h with ⟨hi, rfl⟩ | ⟨rest, hi, rfl⟩ | ⟨rest, hi, hb, rfl⟩
  · have hm : mover u = turn u := by simp [mover, hi]
    refine ⟨hm, ?_⟩
    simp only [step, machineStep, hm]
    cases turn u <;> simp [agentStep, transportTurn, takePass, hi]
  · have hm : mover s = turn s := by simp [mover, hi]
    refine ⟨hm, ?_⟩
    simp only [step, machineStep, hm]
    cases turn s <;> simp [agentStep, transportTurn, takePass, hi]
  · have hm : mover u = turn u := by simp [mover, hi, hb]
    refine ⟨hm, ?_⟩
    simp only [step, machineStep, hm]
    cases turn u <;> simp [agentStep, transportTurn, takePass, hi]

/-- A step with the running word's first or next block step due. -/
theorem step_blockMove {s u : State} {job : Job} (h : MovesFrom s u)
    (hs : s.seq = .start job ∨ ∃ pos ans, s.seq = .ready job pos ans) : step s = blockMove job.word u := by
  have hu := (movesFrom_seq h).1
  rcases hs with hs | ⟨pos, ans, hs⟩
  · rw [(step_of_movesFrom h).2, turn_start hs]
    simp [blockTurn, hu, hs]
  · rw [(step_of_movesFrom h).2, turn_ready hs]
    simp [blockTurn, hu, hs]

/-- A step with a transaction in flight. -/
theorem step_answer {s u : State} {job : Job} {q : Request} {pos : Pos} (h : MovesFrom s u)
    (hs : s.seq = .flight job q pos) : step s = .next (transportStep job q pos u) := by
  rw [(step_of_movesFrom h).2, turn_flight hs]
  simp [answerTurn, (movesFrom_seq h).1, hs]

/-- A step of an idle block. -/
theorem step_idle {s u : State} (h : MovesFrom s u) (hs : s.seq = .idle) : step s = .next u := by
  rw [(step_of_movesFrom h).2, turn_idle hs]
  simp [blockTurn, (movesFrom_seq h).1, hs]

/-- The step of a host move that is taken. -/
theorem step_host {s : State} {m : HostMove} {rest : List Input} (h : s.inputs = .host m :: rest)
    (hw : ¬ (m = .wait ∧ s.status.busy = true)) : step s = hostStep m { s with inputs := rest } := by
  simp [step, machineStep, mover, agentStep, hostTurn, h, hw]

/-- The step of a move of the sensor. -/
theorem step_sensor {s : State} {m : SensorMove} {rest : List Input} (h : s.inputs = .sensor m :: rest) :
    step s = .next { s with inputs := rest, sensor := s.sensor.move m } := by
  simp [step, machineStep, mover, agentStep, transportTurn, h]

/-- What comes first: the host, the sensor, or the running script. -/
theorem first_move (s : State) :
    (∃ m rest, s.inputs = .host m :: rest ∧ ¬ (m = .wait ∧ s.status.busy = true)) ∨
    (∃ m rest, s.inputs = .sensor m :: rest) ∨ (∃ u, MovesFrom s u) := by
  cases hi : s.inputs with
  | nil => exact .inr (.inr ⟨s, .inl ⟨hi, rfl⟩⟩)
  | cons e rest =>
    cases e with
    | pass => exact .inr (.inr ⟨_, .inr (.inl ⟨rest, hi, rfl⟩)⟩)
    | sensor m => exact .inr (.inl ⟨m, rest, rfl⟩)
    | host m =>
      by_cases hw : m = .wait ∧ s.status.busy = true
      · obtain ⟨rfl, hb⟩ := hw
        exact .inr (.inr ⟨s, .inr (.inr ⟨rest, hi, hb, rfl⟩)⟩)
      · exact .inl ⟨m, rest, rfl, hw⟩

/-- Everything a step that answers a next state can do (R7). -/
theorem step_cases {s t : State} (h : step s = .next t) :
    (∃ m rest, s.inputs = .host m :: rest ∧ ¬ (m = .wait ∧ s.status.busy = true) ∧
      hostStep m { s with inputs := rest } = .next t) ∨
    (∃ m rest, s.inputs = .sensor m :: rest ∧ t = { s with inputs := rest, sensor := s.sensor.move m }) ∨
    (∃ u job i, MovesFrom s u ∧ (s.seq = .start job ∨ ∃ pos ans, s.seq = .ready job pos ans) ∧
      decode job.word = .ok i ∧ exec i u = .next t) ∨
    (∃ u job r, MovesFrom s u ∧ (s.seq = .start job ∨ ∃ pos ans, s.seq = .ready job pos ans) ∧
      decode job.word = .error r ∧ t = raise .illegalCommand u) ∨
    (∃ u job q pos, MovesFrom s u ∧ s.seq = .flight job q pos ∧ t = transportStep job q pos u) ∨
    (MovesFrom s t ∧ s.seq = .idle) := by
  rcases first_move s with ⟨m, rest, hi, hw⟩ | ⟨m, rest, hi⟩ | ⟨u, hu⟩
  · exact .inl ⟨m, rest, hi, hw, step_host hi hw ▸ h⟩
  · rw [step_sensor hi] at h
    exact .inr (.inl ⟨m, rest, hi, by cases h; rfl⟩)
  · have block {job : Job} (hs : s.seq = .start job ∨ ∃ pos ans, s.seq = .ready job pos ans) :
        (∃ i, decode job.word = .ok i ∧ exec i u = .next t) ∨
          (∃ r, decode job.word = .error r ∧ t = raise .illegalCommand u) := by
      rw [step_blockMove hu hs, blockMove] at h
      split at h
      · next i hd => exact .inl ⟨i, hd, h⟩
      · next r hd => exact .inr ⟨r, hd, by cases h; rfl⟩
    cases hs : s.seq with
    | idle =>
      rw [step_idle hu hs] at h
      cases h
      exact .inr (.inr (.inr (.inr (.inr ⟨hu, rfl⟩))))
    | flight job q pos =>
      rw [step_answer hu hs] at h
      exact .inr (.inr (.inr (.inr (.inl ⟨u, job, q, pos, hu, rfl, by cases h; rfl⟩))))
    | start job =>
      rcases block (.inl hs) with ⟨i, hd, he⟩ | ⟨r, hd, ht⟩
      · exact .inr (.inr (.inl ⟨u, job, i, hu, .inl rfl, hd, he⟩))
      · exact .inr (.inr (.inr (.inl ⟨u, job, r, hu, .inl rfl, hd, ht⟩)))
    | ready job pos ans =>
      rcases block (.inr ⟨pos, ans, hs⟩) with ⟨i, hd, he⟩ | ⟨r, hd, ht⟩
      · exact .inr (.inr (.inl ⟨u, job, i, hu, .inr ⟨pos, ans, rfl⟩, hd, he⟩))
      · exact .inr (.inr (.inr (.inl ⟨u, job, r, hu, .inr ⟨pos, ans, rfl⟩, hd, ht⟩)))

end Sys2Proof.Machine
end

