-- ==== Sys2Proof/Tests/Slice0.lean ====
section
/-! SUPPORT. Tests against the words and vectors the spec prints, and one witness for the hypotheses of each
statement. The expected values are those of 95_test_vectors.md, or worked by hand from the rule named. -/

namespace Sys2Proof.Tests

open Sys2Proof.Machine Sys2Proof.Safety

/-! ## Small states -/

/-- The set CAL of 95_test_vectors.md section 1 in an open session with a valid `TFINE` of vector T1. -/
def session : State :=
  { State.reset with
    status := { Status.reset with init := true, calv := true, tfv := true }
    tfine := 128422#32
    calib := calExample }

/-- The session before any temperature compensation. -/
def noTfine : State := { session with status := { Status.reset with init := true, calv := true }, tfine := 0 }

/-- `s` with `ARG` = `operand` and command `i` just accepted. -/
def started (i : Instr) (operand : Word) (s : State) : State := accept (encode i) { s with arg := operand }

/-- What `SEQ` records of command `i`, operand 0. -/
def jobOf (i : Instr) : Job := { word := encode i, operand := 0, pollCount := 0, m := 0, burst := [] }

/-- Command `i` running, the transaction of `pos` answered with `ans`. -/
def answered (i : Instr) (pos : Pos) (ans : Answer) (s : State) : State :=
  { started i 0 s with seq := .ready (jobOf i) pos ans }

/-- Command `i` running, transaction `q` in flight. -/
def flying (i : Instr) (q : Request) (pos : Pos) (s : State) : State :=
  { started i 0 s with seq := .flight (jobOf i) q pos }

/-- The next state of a result, where there is one. -/
def after (r : Result) : Option State :=
  match r with
  | .next t => some t
  | .fault _ => none
  | .refused _ => none

/-- What a host reads of `RESULT`, `TFINE` and `STATUS` after a result. -/
def seen (r : Result) : Option (Word × Word × Word) := (after r).map fun t => (t.result, t.tfine, t.status.word)

/-- The transaction a result puts in flight. -/
def asked (r : Result) : Option Request :=
  (after r).bind fun t =>
    match t.seq with
    | .flight _ q _ => some q
    | .idle => none
    | .start _ => none
    | .ready _ _ _ => none

/-! ## WellFormed refuses a reserved argument bit (R83, R88) -/

theorem test_wellFormed_setOsrsT : (Instr.setOsrsT 0x08#8).WellFormed = false := by decide
theorem test_wellFormed_setOsrsP : (Instr.setOsrsP 0x80#8).WellFormed = false := by decide
theorem test_wellFormed_setOsrsH : (Instr.setOsrsH 0x0F#8).WellFormed = false := by decide
theorem test_wellFormed_setFilter : (Instr.setFilter 0x10#8).WellFormed = false := by decide
theorem test_wellFormed_setStandby : (Instr.setStandby 0x20#8).WellFormed = false := by decide
theorem test_wellFormed_setMode : (Instr.setMode 0x04#8).WellFormed = false := by decide
theorem test_wellFormed_applyProfile : (Instr.applyProfile 0x40#8).WellFormed = false := by decide

/-! ## Decoding, by the words of 95_test_vectors.md section 3.1 and the map of R82 -/

theorem test_decode_init : decode 0b00000000000000000000000000000001#32 = .ok .init := by decide
theorem test_decode_getT : decode 0b00000000000000000000000000010000#32 = .ok .getT := by decide
theorem test_decode_getP : decode 0b00000000000000000000000000010001#32 = .ok .getP := by decide
theorem test_decode_getH : decode 0b00000000000000000000000000010010#32 = .ok .getH := by decide
theorem test_decode_compT : decode 0b00000000000000000000000000100000#32 = .ok .compT := by decide
theorem test_decode_compP : decode 0b00000000000000000000000000100001#32 = .ok .compP := by decide
theorem test_decode_compH : decode 0b00000000000000000000000000100010#32 = .ok .compH := by decide
theorem test_decode_setOsrsT : decode 0b00000000000000000000010100110000#32 = .ok (.setOsrsT 5#8) := by decide
theorem test_decode_setOsrsP : decode 0b00000000000000000000000000110001#32 = .ok (.setOsrsP 0#8) := by decide
theorem test_decode_setOsrsH : decode 0b00000000000000000000011100110010#32 = .ok (.setOsrsH 7#8) := by decide
theorem test_decode_setFilter : decode 0b00000000000000000000010000110011#32 = .ok (.setFilter 4#8) := by decide
theorem test_decode_setStandby : decode 0b00000000000000000000010100110100#32 = .ok (.setStandby 5#8) := by decide
theorem test_decode_setMode : decode 0b00000000000000000000001000110101#32 = .ok (.setMode 2#8) := by decide
theorem test_decode_getMode : decode 0b00000000000000000000000000110110#32 = .ok .getMode := by decide
theorem test_decode_applyProfile :
    decode 0b00000000000000000000011000111000#32 = .ok (.applyProfile 6#8) := by decide

/-- The illegal words of section 3.1 and the ends of R87's ranges. -/
theorem test_decode_illegal_opcode :
    [0x00000000#32, 0x00000037#32, 0x00000039#32, 0x000000FF#32, 0x00000002#32, 0x0000000F#32, 0x00000013#32,
      0x0000001F#32, 0x00000023#32, 0x0000002F#32].map decode = List.replicate 10 (.error .opcode) := by rfl
theorem test_decode_illegal_argument :
    [0x00000830#32, 0x00000435#32, 0x00000101#32].map decode = List.replicate 3 (.error .argument) := by rfl
theorem test_decode_illegal_upper : decode 0x00010001#32 = .error .upperBits := by decide

theorem test_decodeTableWord : decodeTableWord 32 0x38 = some (.applyProfile 0#8) := by decide
theorem test_decodeTableWord_refuses : decodeTableWord 32 0x37 = none := by decide

theorem test_assemble : assemble "set_osrs_h" "#7" = some (.setOsrsH 7#8) := by decide
theorem test_assemble_named : assemble "set_osrs_t" "x2" = some (.setOsrsT 2#8) := by decide
theorem test_disassemble : disassemble (.setOsrsP 0#8) = "set_osrs_p skip" := by decide
theorem test_disassemble_unnamed : disassemble (.setMode 2#8) = "set_mode #2" := by decide

/-! ## One step of each command (95_test_vectors.md sections 3.4 to 3.11 and 4) -/

theorem test_withFetchWord : seen (step (State.reset.withFetchWord 32 0x10)) = some (0, 0, 0x200#32) := by
  decide

theorem test_init_reads_the_identifier :
    asked (exec .init (started .init 0 session)) = some (.read 0xD0#8 1) := by decide

/-- Program P1. -/
theorem test_init_mismatch :
    seen (exec .init (answered .init .id (.ok [0x00#8]) State.reset)) = some (0, 0, 0x200#32) := by decide

/-- Vector T1. -/
theorem test_compT : seen (exec .compT (started .compT 519888#32 noTfine)) =
    some (0x9CC#32, 0x1F5A6#32, 0xE#32) := by decide

/-- Vector T-OVF. -/
theorem test_compT_overflow :
    compT 0#20 { Calib.reset with digT1 := 65535, digT2 := 0x8000 } = (-1#32, -32#32) := by decide

/-- Vector P1, program P3. -/
theorem test_compP : seen (exec .compP (started .compP 0x655AC#32 session)) =
    some (0x01892D41#32, 0x1F5A6#32, 0xE#32) := by decide

/-- Vector P3: the 64-bit result is negative. -/
theorem test_compP_negative : compP 0xFFFFF#20 128422#32 calExample = (0xFFE61920#32, false) := by decide

/-- Vector H1, program P3. -/
theorem test_compH : seen (exec .compH (started .compH 0x6E00#32 session)) =
    some (0xB6ED#32, 0x1F5A6#32, 0xE#32) := by decide

/-- Vector H3: the clamp. -/
theorem test_compH_clamped : compH 0xFFFF#16 128422#32 calExample = 102400#32 := by decide

theorem test_setOsrsT : asked (exec (.setOsrsT 1#8) (answered (.setOsrsT 1#8) .rmwRead (.ok [0x00#8]) session)) =
    some (.write 0xF4#8 0x20#8) := by decide
theorem test_setOsrsP : asked (exec (.setOsrsP 1#8) (answered (.setOsrsP 1#8) .rmwRead (.ok [0x20#8]) session)) =
    some (.write 0xF4#8 0x24#8) := by decide
theorem test_setOsrsH : asked (exec (.setOsrsH 5#8) (answered (.setOsrsH 5#8) .rmwRead (.ok [0xF8#8]) session)) =
    some (.write 0xF2#8 0xFD#8) := by decide
theorem test_setFilter :
    asked (exec (.setFilter 4#8) (answered (.setFilter 4#8) .rmwRead (.ok [0x03#8]) session)) =
    some (.write 0xF5#8 0x13#8) := by decide
theorem test_setStandby :
    asked (exec (.setStandby 5#8) (answered (.setStandby 5#8) .rmwRead (.ok [0x00#8]) session)) =
    some (.write 0xF5#8 0xA0#8) := by decide
theorem test_setMode : asked (exec (.setMode 0#8) (answered (.setMode 0#8) .rmwRead (.ok [0xFE#8]) session)) =
    some (.write 0xF4#8 0xFC#8) := by decide

/-- Section 3.7: the read fails with `Err(7)`. -/
theorem test_setOsrsT_read_fails :
    seen (exec (.setOsrsT 1#8) (answered (.setOsrsT 1#8) .rmwRead (.err 7) noTfine)) =
    some (0, 0, 0x00070106#32) := by decide

/-- Section 3.8. -/
theorem test_getMode : seen (exec .getMode (answered .getMode .mode (.ok [0x57#8]) noTfine)) =
    some (3#32, 0, 0x6#32) := by decide

/-- Program P4: `Err(0x12A)` in step 3. -/
theorem test_applyProfile_fails :
    seen (exec (.applyProfile 2#8) (answered (.applyProfile 2#8) (.profRead .osrsH) (.err 0x12A) noTfine)) =
    some (0, 0, 0x002A3106#32) := by decide

/-- R148, Indoor, step 2. -/
theorem test_applyProfile :
    asked (exec (.applyProfile 2#8) (answered (.applyProfile 2#8) (.profRead .osrsP) (.ok [0x40#8]) noTfine)) =
    some (.write 0xF4#8 0x54#8) := by decide

/-- Program P2. -/
theorem test_getT : seen (exec .getT (answered .getT .temp (.ok [0x7E#8, 0xED#8, 0x00#8]) noTfine)) =
    some (0x9CC#32, 0x1F5A6#32, 0xE#32) := by decide
theorem test_getT_forces : asked (exec .getT (answered .getT .mode (.ok [0x24#8]) noTfine)) =
    some (.write 0xF4#8 0x25#8) := by decide

/-- Program P6, the end of the second `get_p`. -/
theorem test_getP : seen (exec .getP (answered .getP .press (.ok [0x65#8, 0x5A#8, 0xC0#8]) session)) =
    some (0x01892D41#32, 0x1F5A6#32, 0xE#32) := by decide

/-- Vector GET-P-G: the guard. -/
theorem test_getP_guard :
    seen (exec .getP (answered .getP .press (.ok [0x65#8, 0x5A#8, 0xC0#8])
      { session with calib := { calExample with digP1 := 0 } })) = some (0, 0x1F5A6#32, 0x1E#32) := by decide

/-- Program P5. -/
theorem test_getH : seen (exec .getH (answered .getH .hum (.ok [0x6E#8, 0x00#8]) session)) =
    some (0xB6ED#32, 0x1F5A6#32, 0xE#32) := by decide

/-- Section 3.10: every status bit but 3 set ends the poll. -/
theorem test_getH_poll : asked (exec .getH (answered .getH .poll (.ok [0xF7#8]) session)) =
    some (.read 0xFA#8 3) := by decide

/-- Vector K2's nibble split, under both widenings. -/
theorem test_nibble_split :
    (decodeB .sext12 (List.replicate 29 0 ++ [0x9A#8, 0xBC#8, 0xDE#8, 0xF0#8]) Calib.reset).digH4 = -1620 ∧
    (decodeB .zext12 (List.replicate 29 0 ++ [0x9A#8, 0xBC#8, 0xDE#8, 0xF0#8]) Calib.reset).digH5 = 3563 := by
  decide

/-- The examples of R112, R123 and R124. -/
theorem test_physical_values : celsius 2508#32 = 2508 / 100 ∧ pascals 25767233#32 = 100653.25390625 ∧
    percentRH 46829#32 = 45.7314453125 := by
  norm_num [celsius, pascals, percentRH, BitVec.toInt]

/-! ## Witnesses: a state and operands for the hypotheses of each statement -/

/-! ### Encoding -/

theorem witness_DecodeOfEncode : (Instr.setMode 3#8).WellFormed = true ∧ (Instr.applyProfile 7#8).WellFormed = true := by
  decide

/-- One legal word and one illegal word. -/
theorem witness_WordSelectsOneCommandOrIsIllegal :
    decode 0x00000738#32 = .ok (.applyProfile 7#8) ∧ decode 0x00000838#32 = .error .argument :=
  ⟨rfl, rfl⟩

/-- The three ways a step comes to the running script: no input, a `pass`, and a `wait` while busy. -/
theorem witness_MovesFrom (w : Word) :
    MovesFrom (accept w State.reset) (accept w State.reset) ∧
    MovesFrom { accept w State.reset with inputs := [.pass] } (accept w State.reset) ∧
    MovesFrom { accept w State.reset with inputs := [.host .wait] }
      { accept w State.reset with inputs := [.host .wait] } :=
  ⟨.inl ⟨rfl, rfl⟩, .inr (.inl ⟨[], rfl, rfl⟩), .inr (.inr ⟨[], rfl, rfl, rfl⟩)⟩

/-- Bits 31:16: the lowest and the highest. -/
theorem witness_IllegalCommandEndsAtFirstStep_upper :
    (∀ w : Word, (accept w State.reset).inputs = [] ∧ (accept w State.reset).seq = .start ⟨w, 0, 0, 0, []⟩) ∧
    (0x00010001#32).extractLsb' 16 16 = 1#16 ∧ (0x80000001#32).extractLsb' 16 16 = 0x8000#16 :=
  ⟨fun _ => ⟨rfl, rfl⟩, rfl, rfl⟩

/-- Opcodes: the ends of every range of R87. -/
theorem witness_IllegalCommandEndsAtFirstStep_opcode :
    (∀ w : Word, (accept w State.reset).inputs = [] ∧ (accept w State.reset).seq = .start ⟨w, 0, 0, 0, []⟩) ∧
    ([0x00#32, 0x02#32, 0x0F#32, 0x13#32, 0x1F#32, 0x23#32, 0x2F#32, 0x37#32, 0x39#32, 0xFF#32].map fun w =>
      (w.extractLsb' 0 8).toNat) = [0x00, 0x02, 0x0F, 0x13, 0x1F, 0x23, 0x2F, 0x37, 0x39, 0xFF] :=
  ⟨fun _ => ⟨rfl, rfl⟩, rfl⟩

/-- The lowest reserved argument bit of each layout of R83. -/
theorem witness_IllegalCommandEndsAtFirstStep_argument :
    (∀ w : Word, (accept w State.reset).inputs = [] ∧ (accept w State.reset).seq = .start ⟨w, 0, 0, 0, []⟩) ∧
    ([0x101#32, 0x110#32, 0x112#32, 0x120#32, 0x122#32, 0x136#32].map fun w => w.extractLsb' 8 8) =
      List.replicate 6 1#8 ∧
    ([0x830#32, 0x834#32, 0x838#32].map fun w => (w.extractLsb' 8 8).extractLsb' 3 5) = List.replicate 3 1#5 ∧
    ((0x435#32).extractLsb' 8 8).extractLsb' 2 6 = 1#6 :=
  ⟨fun _ => ⟨rfl, rfl⟩, rfl, rfl, rfl⟩

/-- The lowest reserved bit of `ARG` of each raw operand. -/
theorem witness_IllegalCommandEndsAtFirstStep_operand :
    (∀ i v, (started i v State.reset).inputs = [] ∧
      (started i v State.reset).seq = .start ⟨encode i, v, 0, 0, []⟩) ∧
    (0x00100000#32).extractLsb' 20 12 = 1#12 ∧ (0x00010000#32).extractLsb' 16 16 = 1#16 :=
  ⟨fun _ _ => ⟨rfl, rfl⟩, by decide⟩

/-- The block's first and later steps, the transport's answer, the idle block, the end of a `wait` and a move of the
sensor. -/
theorem witness_StepRunsTheDecodedCommand :
    (decode (jobOf .getT).word = .ok .getT ∧ (started .getT 0 session).seq = .start (jobOf .getT) ∧
      MovesFrom (started .getT 0 session) (started .getT 0 session)) ∧
    (answered .getT .poll (.ok [0#8]) session).seq = .ready (jobOf .getT) .poll (.ok [0#8]) ∧
    (State.reset.withFetchWord 32 0x10).inputs = [.pass] ∧
    (flying .getT (.read 0xF3#8 1) .poll session).seq = .flight (jobOf .getT) (.read 0xF3#8 1) .poll ∧
    (State.reset.seq = .idle ∧ MovesFrom State.reset State.reset) ∧
    (({ session with inputs := [.host .wait] } : State).inputs = .host .wait :: [] ∧ session.status.busy = false) ∧
    ({ session with inputs := [.sensor .start] } : State).inputs = .sensor .start :: [] :=
  ⟨⟨by decide, rfl, .inl ⟨rfl, rfl⟩⟩, rfl, rfl, rfl, ⟨rfl, .inl ⟨rfl, rfl⟩⟩, ⟨rfl, rfl⟩, rfl⟩

/-! ### The host window -/

theorem witness_CommandWriteIsAccepted :
    ({ session with inputs := [.host (.write 0x00 4 0x10#32)] } : State).inputs = .host (.write 0x00 4 0x10#32) :: [] ∧
    session.status.busy = false ∧
    ∃ t, exec .compT (started .compT 519888#32 session) = .next t :=
  ⟨rfl, rfl, _, rfl⟩

theorem witness_CommandWriteWhileBusyIsDropped :
    let s : State := { started .getT 0 session with inputs := [.host (.write 0x00 4 0x10#32)] }
    s.inputs = .host (.write 0x00 4 0x10#32) :: [] ∧ s.status.busy = true := by decide

theorem witness_StatusWordHasTheFieldsOfTheTable :
    ({ session with inputs := [.host (.write 0x04 4 0#32)] } : State).inputs = .host (.write 0x04 4 0#32) :: [] := rfl

/-- Accesses at the ends of each range of the map: reserved words, the calibration words, the last word, and the
refused sizes and alignments. -/
theorem witness_HostWindowFollowsItsMap :
    (∀ e : Input, ({ session with inputs := [e] } : State).inputs = e :: []) ∧
    (∀ offset ∈ [0x00, 0x04, 0x08, 0x0C, 0x10, 0x14, 0x1C, 0x20, 0x64, 0x68, 0xFC],
      offset % 4 = 0 ∧ offset < 256) ∧ (0x64 = 0x20 + 4 * 17) ∧
    (∀ a ∈ [(0x00, 2), (0x00, 1), (0x02, 4), (0xFD, 4)], ¬ (a.2 = 4 ∧ a.1 % 4 = 0)) ∧
    session.status.busy = false :=
  ⟨fun _ => rfl, by decide⟩

/-! ### Reset -/

theorem witness_ResetLeavesTheTableValues : decode 0x10#32 = .ok .getT ∧ Instr.getT ≠ .init := by decide

theorem witness_BlockResetAbandonsTheScript :
    let s : State := { flying (.setOsrsT 1#8) (.write 0xF4#8 0x20#8) .rmwWrite session with inputs := [.host .reset] }
    s.inputs = .host .reset :: [] ∧ s.seq = .flight (jobOf (.setOsrsT 1#8)) (.write 0xF4#8 0x20#8) .rmwWrite ∧
      ({ session with inputs := [.host .reset] } : State).seq = .idle := by decide

theorem witness_SensorPowerOnValues :
    ({ session with inputs := [.sensor .reset] } : State).inputs = .sensor .reset :: [] := by decide

/-! ### The first step -/

/-- Each of the four cases: illegal, not initialised, no valid `t_fine`, and a command that goes on. -/
theorem witness_FirstStepChecksInOrder :
    ((started .compH 0x00010000#32 session).seq = .start ⟨encode .compH, 0x00010000#32, 0, 0, []⟩ ∧
      (0x00010000#32).extractLsb' 16 16 ≠ 0) ∧
    ((started .compP 0x000FFFFF#32 State.reset).seq = .start ⟨encode .compP, 0x000FFFFF#32, 0, 0, []⟩ ∧
      (0x000FFFFF#32).extractLsb' 20 12 = 0 ∧ Instr.compP.WellFormed = true ∧
      (started .compP 0x000FFFFF#32 State.reset).status.init = false) ∧
    ((started .compP 0 noTfine).seq = .start (jobOf .compP) ∧ (started .compP 0 noTfine).status.init = true ∧
      (started .compP 0 noTfine).status.tfv = false) ∧
    ((started .compP 0 session).seq = .start (jobOf .compP) ∧ (started .compP 0 session).status.init = true ∧
      (started .compP 0 session).status.tfv = true) := by decide

/-! ### Compensation -/

/-- The illegal, the uninitialised and the accepted case of COMP_T, at the largest raw value. -/
theorem witness_CompTWritesTemperatureAndTFine :
    ((0x120#32).extractLsb' 0 8 = 0x20#8 ∧ (0x120#32).extractLsb' 8 8 ≠ 0 ∧ (0x120#32).extractLsb' 16 16 = 0) ∧
    (0x00100000#32).extractLsb' 20 12 ≠ 0 ∧ (0x000FFFFF#32).extractLsb' 20 12 = 0 ∧
    (started .compT 0x000FFFFF#32 session).seq = .start ⟨encode .compT, 0x000FFFFF#32, 0, 0, []⟩ ∧
    (started .compT 0x000FFFFF#32 session).status.init = true ∧
    (started .compT 0x000FFFFF#32 State.reset).status.init = false := by decide

theorem witness_CompPWritesPressureAndGuard :
    ((0x121#32).extractLsb' 0 8 = 0x21#8 ∧ (0x121#32).extractLsb' 8 8 ≠ 0 ∧ (0x121#32).extractLsb' 16 16 = 0) ∧
    (0x000FFFFF#32).extractLsb' 20 12 = 0 ∧
    (started .compP 0x000FFFFF#32 session).seq = .start ⟨encode .compP, 0x000FFFFF#32, 0, 0, []⟩ ∧
    (started .compP 0x000FFFFF#32 session).status.init = true ∧
    (started .compP 0x000FFFFF#32 session).status.tfv = true ∧
    (started .compP 0x000FFFFF#32 noTfine).status.tfv = false := by decide

theorem witness_CompHWritesHumidity :
    ((0x122#32).extractLsb' 0 8 = 0x22#8 ∧ (0x122#32).extractLsb' 8 8 ≠ 0 ∧ (0x122#32).extractLsb' 16 16 = 0) ∧
    (0x00010000#32).extractLsb' 16 16 ≠ 0 ∧ (0x0000FFFF#32).extractLsb' 16 16 = 0 ∧
    (started .compH 0x0000FFFF#32 session).seq = .start ⟨encode .compH, 0x0000FFFF#32, 0, 0, []⟩ ∧
    (started .compH 0x0000FFFF#32 session).status.init = true ∧
    (started .compH 0x0000FFFF#32 session).status.tfv = true := by decide

/-- A set whose `dig_P1` is 0, and two sets that agree on `dig_P1` to `dig_P3`. -/
theorem witness_PressureFollowsTheFormula :
    Calib.reset.digP1 = 0 ∧ calExample.digP1 = { calExample with digP4 := 0 }.digP1 := by decide

/-- An image whose split bytes have clear top bits, at the largest such byte. -/
theorem witness_CalibrationImageDecodes :
    let img : List Byte := List.replicate 29 0 ++ [0x7F#8, 0xFF#8, 0x7F#8, 0#8]
    (byteAt img 29).toNat < 0x80 ∧ (byteAt img 31).toNat < 0x80 := by decide

/-! ### Setters, mode, profiles -/

theorem witness_SetterReadsItsRegister :
    setterRow (.setMode 3#8) = some (0xF4#8, 0x03#8, 3#8) ∧ (Instr.setMode 3#8).WellFormed = true ∧
    (Instr.setMode 4#8).WellFormed = false ∧
    (started (.setMode 3#8) 0 session).seq = .start (jobOf (.setMode 3#8)) ∧
    (started (.setMode 3#8) 0 session).status.init = true ∧
    (started (.setMode 3#8) 0 State.reset).status.init = false := by decide

theorem witness_UpdateFieldReadsThenWrites :
    setterRow (.setFilter 7#8) = some (0xF5#8, 0x1C#8, 0x1C#8) ∧
    (∀ ans ∈ [Answer.ok [0xFF#8], .err 7], (answered (.setFilter 7#8) .rmwRead ans session).seq =
      .ready (jobOf (.setFilter 7#8)) .rmwRead ans) ∧
    (∀ ans ∈ [Answer.ok [], .err 9], (answered (.setFilter 7#8) .rmwWrite ans session).seq =
      .ready (jobOf (.setFilter 7#8)) .rmwWrite ans) := by decide

theorem witness_SetterRunMakesTwoTransactions :
    let i := Instr.setOsrsP 7#8
    let s : State := { started i 0 session with replies := [.ok [0xFF#8], .ok []] }
    setterRow i = some (0xF4#8, 0x1C#8, 0x1C#8) ∧ i.WellFormed = true ∧ s.inputs = [] ∧
    s.seq = .start (jobOf i) ∧ decode (jobOf i).word = .ok i ∧ s.status.init = true ∧
    s.replies = .ok [0xFF#8] :: .ok [] :: [] := by decide

theorem witness_GetModeReturnsTheModeField :
    (started .getMode 0 State.reset).seq = .start (jobOf .getMode) ∧
    (started .getMode 0 State.reset).status.init = false ∧ (started .getMode 0 session).status.init = true ∧
    (∀ ans ∈ [Answer.ok [0xFF#8], .err 1], (answered .getMode .mode ans session).seq =
      .ready (jobOf .getMode) .mode ans) := by decide

theorem witness_ProfileTableRows : 4 ≤ (4#3).toNat ∧ 4 ≤ (7#3).toNat := by decide

/-- The first and the last step, each half, answered and failed; APPLY_PROFILE and INIT. -/
theorem witness_ProfileStepsRunInOrder :
    profileOf .init = some (profileRow 0) ∧ profileOf (.applyProfile 7#8) = some (profileRow 7) ∧
    (∀ k ∈ [ProfileStep.osrsT, .mode], ∀ ans ∈ [Answer.ok [0xFF#8], .err 0],
      (answered (.applyProfile 7#8) (.profRead k) ans session).seq =
        .ready (jobOf (.applyProfile 7#8)) (.profRead k) ans ∧
      (answered (.applyProfile 7#8) (.profWrite k) ans session).seq =
        .ready (jobOf (.applyProfile 7#8)) (.profWrite k) ans) ∧
    ProfileStep.osrsP.index.toNat = ProfileStep.osrsT.index.toNat + 1 ∧ ProfileStep.mode.index = 6 := by decide

theorem witness_ApplyProfileStartsWithStepOne :
    argLegal 0x07#8 7#8 = true ∧ argLegal 0x07#8 8#8 = false ∧
    (started (.applyProfile 7#8) 0 session).seq = .start (jobOf (.applyProfile 7#8)) ∧
    (started (.applyProfile 7#8) 0 session).status.init = true ∧
    (started (.applyProfile 7#8) 0 State.reset).status.init = false := by decide

theorem witness_ProfileTransactionsFromZero : (4 : Nat) ≤ (4#3).toNat ∧ 4 ≤ (7#3).toNat := by decide

/-! ### INIT -/

theorem witness_InitClearsTheSession : (started .init 0 session).seq = .start (jobOf .init) := by decide

theorem witness_InitChecksTheChipIdentifier :
    (∀ id ∈ [0x60#8, 0x61#8], (answered .init .id (.ok [id]) State.reset).seq =
      .ready (jobOf .init) .id (.ok [id])) ∧
    State.reset.params.chipId = 0x60#8 ∧ State.reset.params.chipId ≠ 0x61#8 := by decide

theorem witness_InitReadsTheCalibration :
    let a : List Byte := List.replicate 26 0x7F#8
    let b : List Byte := List.replicate 7 0xFF#8
    a.length = 26 ∧ b.length = 7 ∧ State.reset.scratch.length = 33 ∧
    (∀ ans ∈ [Answer.ok a, .err 0x33], (answered .init .calA ans State.reset).seq =
      .ready (jobOf .init) .calA ans) ∧
    (∀ ans ∈ [Answer.ok b, .err 0x33], (answered .init .calB ans State.reset).seq =
      .ready (jobOf .init) .calB ans) := by decide

/-! ### States that meet the invariant -/

theorem reset_consistent : Consistent State.reset where
  memWf := by decide
  scratchLen := by decide
  busySeq := by decide
  calvInit := by decide
  tfvInit := by decide
  errRange := by decide
  stepRange := by decide
  busyClear := by decide
  stepErr := by decide
  tcodeErr := by decide
  guardZero := by decide
  h4Ext := by decide
  h5Ext := by decide
  pollLimit := by decide
  seqOk := trivial

/-- INIT at calibration block A, answered by an error or by 26 bytes. -/
theorem calA_consistent (ans : Answer) (h : ∀ bytes, ans = .ok bytes → bytes.length = 26) :
    Consistent (answered .init .calA ans State.reset) where
  memWf := reset_consistent.memWf
  scratchLen := reset_consistent.scratchLen
  busySeq := iff_of_true rfl (by simp [answered])
  calvInit := rfl
  tfvInit := fun e => Bool.noConfusion e
  errRange := Nat.zero_le _
  stepRange := Nat.zero_le _
  busyClear := fun _ => ⟨rfl, rfl, rfl, rfl⟩
  stepErr := fun e => absurd rfl e
  tcodeErr := fun e => absurd rfl e
  guardZero := fun e => Bool.noConfusion e
  h4Ext := reset_consistent.h4Ext
  h5Ext := reset_consistent.h5Ext
  pollLimit := reset_consistent.pollLimit
  seqOk := ⟨⟨rfl, .init, (by decide : decode (encode .init) = .ok .init), rfl, rfl⟩, fun e => Pos.noConfusion e, h⟩

/-- A command just accepted in an open session. -/
theorem started_consistent (i : Instr) (replies : List Reply) :
    Consistent { started i 0 session with replies := replies } where
  memWf := reset_consistent.memWf
  scratchLen := reset_consistent.scratchLen
  busySeq := iff_of_true rfl (by simp [started, accept])
  calvInit := rfl
  tfvInit := fun _ => rfl
  errRange := Nat.zero_le _
  stepRange := Nat.zero_le _
  busyClear := fun _ => ⟨rfl, rfl, rfl, rfl⟩
  stepErr := fun e => absurd rfl e
  tcodeErr := fun e => absurd rfl e
  guardZero := fun e => Bool.noConfusion e
  h4Ext := (by decide : ext12 .sext12 (calExample.digH4.truncate 12) = calExample.digH4)
  h5Ext := (by decide : ext12 .sext12 (calExample.digH5.truncate 12) = calExample.digH5)
  pollLimit := reset_consistent.pollLimit
  seqOk := rfl

theorem witness_FailedCalibrationLeavesPartialFields :
    (Consistent (answered .init .calA (.err 0x33) State.reset) ∧ decode (jobOf .init).word = .ok .init ∧
      (∃ t, step (answered .init .calA (.err 0x33) State.reset) = .next t) ∧
      MovesFrom (answered .init .calA (.err 0x33) State.reset) (answered .init .calA (.err 0x33) State.reset)) ∧
    (∃ (a : List Byte) (s : State), Consistent s ∧ s.inputs = [] ∧ s.seq = .ready (jobOf .init) .calA (.ok a) ∧
      s.replies = .err 0x33 :: []) := by
  refine ⟨⟨calA_consistent _ fun _ e => Answer.noConfusion e, by decide, ⟨_, rfl⟩, .inl ⟨rfl, rfl⟩⟩,
    List.replicate 26 0x7F#8,
    { answered .init .calA (.ok (List.replicate 26 0x7F#8)) State.reset with replies := [.err 0x33] }, ?_, rfl,
    rfl, rfl⟩
  have h := calA_consistent (.ok (List.replicate 26 0x7F#8)) (by intro bytes e; cases e; rfl)
  exact ⟨h.memWf, h.scratchLen, h.busySeq, h.calvInit, h.tfvInit, h.errRange, h.stepRange, h.busyClear, h.stepErr,
    h.tcodeErr, h.guardZero, h.h4Ext, h.h5Ext, h.pollLimit, h.seqOk⟩

theorem witness_InitRunOpensTheSession :
    let writes : List Reply := List.replicate 12 (.ok [])
    let s : State := { started .init 0 session with
      replies := .ok [0x60#8] :: .ok (List.replicate 26 0x7F#8) :: .ok (List.replicate 7 0xFF#8) :: writes }
    Consistent s ∧ s.inputs = [] ∧ s.seq = .start (jobOf .init) ∧ decode (jobOf .init).word = .ok .init ∧
      s.params.chipId = 0x60#8 ∧ writes.length = 12 ∧ ∀ r ∈ writes, ∃ bytes, r = .ok bytes :=
  ⟨started_consistent _ _, rfl, rfl, by decide, rfl, rfl, fun _ h => ⟨[], List.eq_of_mem_replicate h⟩⟩

/-! ### Measurement -/

theorem witness_MeasurementForcesTheMode :
    Measures .getH ∧ session.params.pollLimit ≠ some 0 ∧
    (started .getH 0 State.reset).status.init = false ∧ (started .getH 0 session).status.init = true ∧
    (∀ m ∈ [0xFE#8, 0xFF#8], (answered .getH .mode (.ok [m]) session).seq =
      .ready (jobOf .getH) .mode (.ok [m])) ∧
    (0xFE#8).toNat % 4 ≠ 3 ∧ (0xFF#8).toNat % 4 = 3 ∧
    (answered .getH .forced (.ok []) session).seq = .ready (jobOf .getH) .forced (.ok []) ∧
    (answered .getH .mode (.err 5) session).seq = .ready (jobOf .getH) .mode (.err 5) :=
  ⟨.inr (.inr rfl), by decide⟩

/-- The poll with one read left and with two, and a byte with every bit but 3 set. -/
theorem witness_PollIsBounded :
    Measures .getT ∧ (0xF7#8).getLsbD 3 = false ∧ (0x08#8).getLsbD 3 = true ∧
    (∀ st ∈ [0xF7#8, 0x08#8], (answered .getT .poll (.ok [st]) session).seq =
      .ready (jobOf .getT) .poll (.ok [st])) ∧
    ({ session.params with pollLimit := some 1 } : Config.Params).pollLimit = some ((jobOf .getT).pollCount + 1) ∧
    session.params.pollLimit ≠ some ((jobOf .getT).pollCount + 1) :=
  ⟨.inl rfl, by decide⟩

theorem witness_GetTEndsWithTheTemperature :
    session.scratch.length = 33 ∧ (answered .getT .temp (.ok [0xFF#8, 0xFF#8, 0xF0#8]) session).seq =
      .ready (jobOf .getT) .temp (.ok [0xFF#8, 0xFF#8, 0xF0#8]) := by decide

theorem witness_GetPEndsWithThePressure :
    session.scratch.length = 33 ∧ (∀ pos ∈ [Pos.temp, .press],
      (answered .getP pos (.ok [0xFF#8, 0xFF#8, 0xF0#8]) session).seq =
        .ready (jobOf .getP) pos (.ok [0xFF#8, 0xFF#8, 0xF0#8])) := by decide

theorem witness_GetHEndsWithTheHumidity :
    session.scratch.length = 33 ∧
    (answered .getH .temp (.ok [0xFF#8, 0xFF#8, 0xF0#8]) session).seq =
      .ready (jobOf .getH) .temp (.ok [0xFF#8, 0xFF#8, 0xF0#8]) ∧
    (answered .getH .hum (.ok [0xFF#8, 0xFF#8]) session).seq =
      .ready (jobOf .getH) .hum (.ok [0xFF#8, 0xFF#8]) := by decide

/-- Nine status reads that show "measuring" and a tenth that does not, under a bound of 10. -/
theorem witness_GetTRunMakesTheScenarioTransactions :
    let busyReads : List Byte := List.replicate 9 0x08#8
    let s : State := { started .getT 0 session with
      replies := .ok [0x24#8] :: .ok [] :: (busyReads.map fun b => .ok [b]) ++
        .ok [0x00#8] :: .ok [0x7E#8, 0xED#8, 0x00#8] :: [] }
    s.inputs = [] ∧ s.seq = .start (jobOf .getT) ∧ decode (jobOf .getT).word = .ok .getT ∧
    s.status.init = true ∧ s.scratch.length = 33 ∧ (0x24#8).toNat % 4 ≠ 3 ∧
    (∀ b ∈ busyReads, b.getLsbD 3 = true) ∧ (0x00#8).getLsbD 3 = false ∧
    s.params.pollLimit = some 10 ∧ busyReads.length < 10 := by decide

/-! ### Errors and frames -/

/-- A profile position, a calibration position and a poll. -/
theorem witness_TransportErrorEndsTheCommand :
    (∀ e ∈ [(Instr.applyProfile 0#8, Pos.profWrite .mode), (.init, .calB), (.getT, .poll)],
      scriptHas e.1 e.2 = true ∧
      (answered e.1 e.2 (.err 0x12A) session).seq = .ready (jobOf e.1) e.2 (.err 0x12A)) := by decide

theorem witness_ErrorCodesAreNumbered :
    Error.transport 0x12A = .transport 0x12A ∧ ∀ c, Error.timeout ≠ .transport c :=
  ⟨rfl, fun _ e => Error.noConfusion e⟩

theorem witness_BlockStepLeavesTheOutsideAlone : ∃ t, exec .compH (started .compH 0x6E00#32 session) = .next t :=
  ⟨_, rfl⟩

/-- One command of each group. -/
theorem witness_CommandFrames :
    (∃ t, exec (.setMode 3#8) (answered (.setMode 3#8) .rmwRead (.ok [0#8]) session) = .next t) ∧
    setterRow (.setMode 3#8) ≠ none ∧
    (∃ t, exec .getMode (answered .getMode .mode (.ok [0#8]) session) = .next t) ∧
    (∃ t, exec .compT (started .compT 519888#32 session) = .next t) ∧
    (∃ t, exec .compH (started .compH 0x6E00#32 session) = .next t) ∧
    Measures .getP ∧ (∃ t, exec .getP (answered .getP .poll (.ok [0#8]) session) = .next t) ∧
    (∃ t, exec .init (started .init 0 session) = .next t) :=
  ⟨⟨_, rfl⟩, by decide, ⟨_, rfl⟩, ⟨_, rfl⟩, ⟨_, rfl⟩, .inr (.inl rfl), ⟨_, rfl⟩, ⟨_, rfl⟩⟩

theorem witness_OnlyInitWritesTheCalibration :
    ∃ t, step (answered .init .calA (.ok (List.replicate 26 0x7F#8)) State.reset) = .next t ∧
      t.calib ≠ State.reset.calib :=
  ⟨_, rfl, by decide⟩

theorem witness_OnlySuccessWritesTheResult :
    ∃ t, step (started .compT 519888#32 noTfine) = .next t ∧ t.result ≠ noTfine.result := ⟨_, rfl, by decide⟩

/-- `TFINE` written and `TFV` set; `TFV` cleared by INIT. -/
theorem witness_TFineIsValidOnceWritten :
    (∃ t, step (started .compT 519888#32 noTfine) = .next t ∧ t.tfine ≠ noTfine.tfine ∧
      noTfine.status.tfv = false ∧ t.status.tfv = true) ∧
    (∃ t, step (started .init 0 session) = .next t ∧ session.status.tfv = true ∧ t.status.tfv = false) :=
  ⟨⟨_, rfl, by decide⟩, _, rfl, by decide⟩

/-! ### The transport and the sensor -/

/-- A burst that ends at the last address. -/
theorem witness_ReadsReturnConsecutiveRegisters :
    (flying .getH (.read 0xFD#8 3) .hum session).seq = .flight (jobOf .getH) (.read 0xFD#8 3) .hum ∧
    session.replies = [] ∧ session.inputs = [] ∧ (0xFD#8).toNat + 3 ≤ 256 ∧
    ({ session with replies := [.err 5] } : State).replies = .err 5 :: [] := by decide

/-- Each register, acknowledged by the sensor itself and by a reply. -/
theorem witness_WritesChangeOnlyTheirRegister :
    Memory.wf session.sensor.mem ∧ session.sensor.modeWriteOpen 0xFF#8 = false ∧ session.sensor.mode ≠ 3 ∧
    (∀ (a : Byte) (replies : List Reply),
      let s : State := { flying (.setMode 1#8) (.write a 0xFF#8) .rmwWrite session with replies := replies }
      MovesFrom s s ∧ s.seq = .flight (jobOf (.setMode 1#8)) (.write a 0xFF#8) .rmwWrite ∧
        s.sensor = session.sensor) ∧
    nextReply session = .ok [] ∧ nextReply { session with replies := [.ok [0#8]] } = .ok [0#8] :=
  ⟨by decide, by decide, by decide, fun _ _ => ⟨.inl ⟨rfl, rfl⟩, rfl, rfl⟩, rfl, rfl⟩

theorem witness_HumidityOversamplingIsLatched :
    (∀ (a : Byte) (replies : List Reply),
      let s : State := { flying (.setOsrsH 7#8) (.write a 0x07#8) .rmwWrite session with replies := replies }
      MovesFrom s s ∧ s.seq = .flight (jobOf (.setOsrsH 7#8)) (.write a 0x07#8) .rmwWrite) ∧
    nextReply session = .ok [] ∧ nextReply { session with replies := [.ok [0#8]] } = .ok [0#8] :=
  ⟨fun _ _ => ⟨.inl ⟨rfl, rfl⟩, rfl⟩, rfl, rfl⟩

/-- A sensor in Forced mode that has not started: temperature measured, pressure skipped. -/
theorem witness_ForcedMeasurementUpdatesTheData :
    let x := Sensor.reset.put 0xF4#8 0x21#8
    Memory.wf x.mem ∧ isForced x.mode = true ∧ x.measuring = false ∧ (x.reg 0xF4#8).extractLsb' 5 3 ≠ 0 ∧
      (x.reg 0xF4#8).extractLsb' 2 3 = 0 := by decide

/-! ### Invariants -/

theorem witness_StepKeepsInvariant :
    ∃ s t : State, Consistent s ∧ step s = .next t ∧ t ≠ s :=
  ⟨_, _, started_consistent .getT [], rfl, by decide⟩

theorem witness_OnlyMalformedHostAccessStops : Consistent { started .getT 0 session with replies := [.err 5] } :=
  started_consistent _ _

theorem witness_BusTouchesOnlyTheListedAddresses :
    ∃ s t : State, Consistent s ∧ BusOk s ∧ step s = .next t ∧ t.seq = .flight (jobOf .getT) (.read 0xF4#8 1) .mode :=
  ⟨_, _, started_consistent .getT [], fun _ h => absurd h List.not_mem_nil, rfl, rfl⟩

theorem witness_EveryCommandEnds :
    ∃ s : State, Consistent s ∧ s.inputs = [] ∧ s.params.pollLimit = some 10 ∧ s.status.busy = true :=
  ⟨_, started_consistent .getP [], rfl, rfl, rfl⟩

/-- A step of each agent, and a reset. -/
theorem witness_EachAgentChangesItsOwnState :
    (∃ t, mover { session with inputs := [.host (.write 0x08 4 7#32)] } = .host ∧
      step { session with inputs := [.host (.write 0x08 4 7#32)] } = .next t ∧ t.arg = 7#32) ∧
    (∃ t, mover { session with inputs := [.host .reset] } = .host ∧
      step { session with inputs := [.host .reset] } = .next t ∧ t.result = 0#32) ∧
    (∃ t, mover (started .compT 519888#32 session) = .block ∧ step (started .compT 519888#32 session) = .next t) ∧
    (∃ t, mover (flying .getT (.read 0xF3#8 1) .poll session) = .transport ∧
      step (flying .getT (.read 0xF3#8 1) .poll session) = .next t) :=
  ⟨⟨_, rfl, rfl, rfl⟩, ⟨_, rfl, rfl, rfl⟩, ⟨_, rfl, rfl⟩, _, rfl, rfl⟩

end Sys2Proof.Tests
end

namespace Sys2Proof.Machine

/-! ## The status word bit by bit (R28) -/

theorem getLsbD_flagAt (b : Bool) (bit k : Nat) :
    (flagAt b bit).getLsbD k = (decide (k < 32) && (decide (k = bit) && b)) := by
  cases b with
  | false => simp [flagAt]
  | true =>
    rw [Bool.eq_iff_iff]
    simp [flagAt]
    omega

/-- Each bit of the status word is the bit of the field that R28 places there. A field contributes nothing
beyond its own width, so its range needs no upper bound. -/
theorem Status.getLsbD_word (st : Status) (k : Nat) :
    st.word.getLsbD k =
      (decide (k = 0) && st.busy || decide (k = 1) && st.init || decide (k = 2) && st.calv ||
        decide (k = 3) && st.tfv || decide (k = 4) && st.pguard || decide (k = 5) && st.overrun ||
        decide (8 ≤ k) && st.err.getLsbD (k - 8) || decide (12 ≤ k) && st.errStep.getLsbD (k - 12) ||
        decide (16 ≤ k) && st.errTcode.getLsbD (k - 16)) := by
  simp only [Status.word, BitVec.getLsbD_or, getLsbD_flagAt, BitVec.getLsbD_shiftLeft, BitVec.getLsbD_setWidth]
  by_cases hk : k < 32
  · have hlow (j : Nat) : k - j < 32 := by omega
    simp only [hk, hlow, decide_true, Bool.true_and, ← Nat.not_lt, decide_not]
  · have herr : st.err.getLsbD (k - 8) = false := BitVec.getLsbD_of_ge _ _ (by omega)
    have hstep : st.errStep.getLsbD (k - 12) = false := BitVec.getLsbD_of_ge _ _ (by omega)
    have htcode : st.errTcode.getLsbD (k - 16) = false := BitVec.getLsbD_of_ge _ _ (by omega)
    have hflag : ∀ bit < 32, k ≠ bit := by omega
    simp [hk, herr, hstep, htcode, hflag]

/-- A field of the status word, read bit by bit. -/
theorem Status.extractLsb'_word (st : Status) {start len : Nat} {field : BitVec len}
    (h : ∀ k < len, st.word.getLsbD (start + k) = field.getLsbD k) :
    st.word.extractLsb' start len = field := by
  apply BitVec.eq_of_getLsbD_eq
  intro k hk
  rw [BitVec.getLsbD_extractLsb', h k hk]
  simp [hk]

theorem Status.word_reserved_7_6 (st : Status) : st.word.extractLsb' 6 2 = 0 :=
  st.extractLsb'_word fun k hk => by rw [getLsbD_word]; grind

theorem Status.word_err (st : Status) : st.word.extractLsb' 8 4 = st.err :=
  st.extractLsb'_word fun k hk => by rw [getLsbD_word]; grind

theorem Status.word_errStep (st : Status) : st.word.extractLsb' 12 3 = st.errStep :=
  st.extractLsb'_word fun k hk => by rw [getLsbD_word]; grind

theorem Status.word_errTcode (st : Status) : st.word.extractLsb' 16 8 = st.errTcode :=
  st.extractLsb'_word fun k hk => by rw [getLsbD_word]; grind

theorem Status.word_reserved_31_24 (st : Status) : st.word.extractLsb' 24 8 = 0 :=
  st.extractLsb'_word fun k hk => by rw [getLsbD_word]; grind

/-! ## Host accesses -/

/-- A legal host write takes one step and stores (R60). -/
theorem step_host_write {s : State} {rest : List Input} {offset size : Nat} {v : Word}
    (h : s.inputs = .host (.write offset size v) :: rest) (hl : hostAccessLegal offset size = true) :
    step s = .next (hostStore offset v { s with inputs := rest }) := by
  rw [step_host h (by simp)]
  simp [hostStep, hostWriteStep, hl]

/-- Every register but `CMD` and `ARG` ignores a host write (R60, R61). -/
theorem hostStore_ignored {offset : Nat} (hcmd : offset ≠ 0x00) (harg : offset ≠ 0x08) (v : Word) (s : State) :
    hostStore offset v s = s := by
  simp [hostStore, hcmd, harg]

/-! ## Errors of the first step (R180) -/

theorem Error.code_ne_zero (e : Error) : e.code ≠ 0 := by
  cases e <;> simp [Error.code]

@[simp] theorem Status.failed_err (e : Error) (st : Status) : (st.failed e).err = e.code := by
  cases e <;> rfl

/-- With `INIT` = 0 the checks of a command that needs it cannot all pass. -/
theorem firstError_of_init_false {legal needsTfine : Bool} {s : State} (hi : s.status.init = false) :
    ∃ e, firstError legal true needsTfine s = some e := by
  rw [← Option.ne_none_iff_exists', ne_eq, firstError_none]
  simp [hi]

/-- Every command but INIT is a block step whose checks include `INIT` = 1 (R180). -/
theorem exec_checks_init {i : Instr} (hne : i ≠ .init) (s : State) :
    ∃ (legal : Job → Bool) (needsTfine : Bool) (start : Job → State)
      (resume : Job → Pos → Answer → Option State),
      exec i s = blockStep (fun job => firstError (legal job) true needsTfine s) start resume s := by
  cases i with
  | init => exact absurd rfl hne
  | compT => exact ⟨_, _, _, _, execCompT.eq_def s⟩
  | compP => exact ⟨_, _, _, _, execCompP.eq_def s⟩
  | compH => exact ⟨_, _, _, _, execCompH.eq_def s⟩
  | _ => exact ⟨_, _, _, _, rfl⟩

/-- Without a session, the first step of every command but INIT ends it with an error. -/
theorem exec_start_of_init_false {i : Instr} (hne : i ≠ .init) {s : State} {job : Job}
    (hs : s.seq = .start job) (hi : s.status.init = false) : ∃ e, exec i s = .next (raise e s) := by
  obtain ⟨legal, needsTfine, start, resume, hexec⟩ := exec_checks_init hne s
  obtain ⟨e, he⟩ := firstError_of_init_false (legal := legal job) (needsTfine := needsTfine) hi
  exact ⟨e, hexec.trans (blockStep_start_error hs he)⟩

end Sys2Proof.Machine

namespace Sys2Proof.Proofs

open Sys2Proof.Machine

theorem calib_word_reset {i : Nat} (hi : i < 18) : Calib.reset.word i = 0 := by
  revert i
  decide

/-- Settles O9: each bit and field of the word is read off `Status.getLsbD_word`, and the write is a legal
access at an offset that `hostStore` ignores. -/
theorem statusWordHasTheFieldsOfTheTable : Obligations.StatusWordHasTheFieldsOfTheTable := by
  refine ⟨fun st => ?_, by decide, fun s rest v h => ?_⟩
  · exact ⟨(st.getLsbD_word 0).trans (by simp), (st.getLsbD_word 1).trans (by simp),
      (st.getLsbD_word 2).trans (by simp), (st.getLsbD_word 3).trans (by simp),
      (st.getLsbD_word 4).trans (by simp), (st.getLsbD_word 5).trans (by simp), st.word_reserved_7_6,
      st.word_err, st.word_errStep, (st.getLsbD_word 15).trans (by simp), st.word_errTcode,
      st.word_reserved_31_24⟩
  · rw [step_host_write h (by decide), hostStore_ignored (by decide) (by decide)]

/-- Settles O11: after reset `INIT` = 0, so the first step of an accepted command other than INIT raises an
error, and no error has code 0. -/
theorem resetLeavesTheTableValues : Obligations.ResetLeavesTheTableValues := by
  refine ⟨rfl, rfl, rfl, rfl, by decide, fun _ hi => calib_word_reset hi, rfl, rfl, fun w i _ hne => ?_⟩
  obtain ⟨e, he⟩ := exec_start_of_init_false hne (s := accept w State.reset) (accept_seq w _) rfl
  exact ⟨_, he, rfl, by simpa using e.code_ne_zero⟩

end Sys2Proof.Proofs

namespace Sys2Proof.Machine

open Sys2Proof.Safety

/-! ## Host accesses to the window (R59 to R61) -/

theorem hostAccessLegal_iff {offset size : Nat} :
    hostAccessLegal offset size = true ↔ size = 4 ∧ offset % 4 = 0 ∧ offset < 256 := by
  simp [hostAccessLegal, and_assoc]

/-- An access that is not an aligned 32-bit word is outside the interface (R60). -/
theorem hostAccessLegal_eq_false {offset size : Nat} (h : ¬ (size = 4 ∧ offset % 4 = 0)) :
    hostAccessLegal offset size = false :=
  Bool.eq_false_iff.mpr fun hl => by
    obtain ⟨hsize, halign, -⟩ := hostAccessLegal_iff.mp hl
    exact h ⟨hsize, halign⟩

/-- Everything a host move that answers a next state can do. -/
theorem hostStep_cases {m : HostMove} {s t : State} (h : hostStep m s = .next t) :
    (∃ offset size v, m = .write offset size v ∧ hostAccessLegal offset size = true ∧ t = hostStore offset v s) ∨
    (∃ offset size, m = .read offset size ∧ hostAccessLegal offset size = true ∧
      t = { s with hostReads := s.hostReads ++ [hostRegister offset s] }) ∨
    (m = .wait ∧ t = s) ∨ (m = .reset ∧ t = blockReset s) := by
  cases m with
  | write offset size v =>
    simp only [hostStep, hostWriteStep] at h
    split at h
    · next hl => exact .inl ⟨offset, size, v, rfl, hl, by cases h; rfl⟩
    · cases h
  | read offset size =>
    simp only [hostStep, hostReadStep] at h
    split at h
    · next hl => exact .inr (.inl ⟨offset, size, rfl, hl, by cases h; rfl⟩)
    · cases h
  | wait => exact .inr (.inr (.inl ⟨rfl, by cases h; rfl⟩))
  | reset => exact .inr (.inr (.inr ⟨rfl, by cases h; rfl⟩))

theorem step_host_write_refused {s : State} {rest : List Input} {offset size : Nat} {v : Word}
    (h : s.inputs = .host (.write offset size v) :: rest) (hl : hostAccessLegal offset size = false) :
    step s = .refused (.hostAccess offset size) := by
  rw [step_host h (by simp)]
  simp [hostStep, hostWriteStep, hl]

theorem step_host_read_refused {s : State} {rest : List Input} {offset size : Nat}
    (h : s.inputs = .host (.read offset size) :: rest) (hl : hostAccessLegal offset size = false) :
    step s = .refused (.hostAccess offset size) := by
  rw [step_host h (by simp)]
  simp [hostStep, hostReadStep, hl]

/-- A legal host read takes one step and records the register (R60). -/
theorem step_host_read {s : State} {rest : List Input} {offset size : Nat}
    (h : s.inputs = .host (.read offset size) :: rest) (hl : hostAccessLegal offset size = true) :
    step s = .next { s with inputs := rest, hostReads := s.hostReads ++ [hostRegister offset s] } := by
  rw [step_host h (by simp)]
  simp only [hostStep, hostReadStep, hl, if_true]
  rfl

/-- The calibration words stand in the range 0x20 to 0x64 of the map (R59). -/
theorem hostRegister_calib {offset : Nat} (hlo : 0x20 ≤ offset) (hhi : offset ≤ 0x64) (s : State) :
    hostRegister offset s = s.calib.word ((offset - 0x20) / 4) := by
  have hlow : ∀ k < 0x20, offset ≠ k := by omega
  simp [hostRegister, hlow, hlo, hhi]

/-- The gap between `TFINE` and the calibration words, and everything past them, reads as 0 (R61). -/
theorem hostRegister_reserved {offset : Nat} (h : (0x14 ≤ offset ∧ offset ≤ 0x1C) ∨ 0x68 ≤ offset) (s : State) :
    hostRegister offset s = 0 := by
  have hlow : ∀ k < 0x14, offset ≠ k := by omega
  have hcalib : ¬ (0x20 ≤ offset ∧ offset ≤ 0x64) := by omega
  simp [hostRegister, hcalib, hlow]

/-- A `CMD` write issues its command while the block is not busy (R84, R85). -/
theorem hostStore_cmd_of_not_busy {s : State} (hb : s.status.busy = false) (w : Word) :
    hostStore 0x00 w s = accept w s := by
  simp [hostStore, hb]

/-- A host write consumes no further input. -/
theorem hostStore_inputs (offset : Nat) (v : Word) (s : State) : (hostStore offset v s).inputs = s.inputs := by
  unfold hostStore
  split_ifs <;> rfl

/-! ## What a step leaves on the bus (R58)

No step of a script completes a transaction, and one that it puts in flight is in the list of R58. -/

/-- `t` has the completed transactions of `s`, and what it has in flight is allowed. `BusFrame s s` says it of
what `s` itself has in flight. -/
def BusFrame (s t : State) : Prop :=
  t.trace = s.trace ∧ ∀ job q pos, t.seq = .flight job q pos → allowed q = true

theorem BusFrame.of_idle {s t : State} (ht : t.trace = s.trace) (hs : t.seq = .idle) : BusFrame s t :=
  ⟨ht, fun _ _ _ hf => by simp [hs] at hf⟩

theorem BusFrame.complete {s u : State} (hu : u.trace = s.trace) : BusFrame s (complete u) :=
  .of_idle hu rfl

theorem BusFrame.raise {s u : State} (e : Error) (hu : u.trace = s.trace) : BusFrame s (raise e u) :=
  .of_idle hu rfl

theorem BusFrame.issue {s u : State} {job : Job} {q : Request} {pos : Pos} (hq : allowed q = true)
    (hu : u.trace = s.trace) : BusFrame s (issue job q pos u) :=
  ⟨hu, fun _ _ _ hf => by cases hf; exact hq⟩

/-- A move that leaves the record and the sequencer as they are. -/
theorem BusFrame.of_seq_eq {s t : State} (ht : t.trace = s.trace) (hs : t.seq = s.seq) (h : BusFrame s s) :
    BusFrame s t :=
  ⟨ht, hs ▸ h.2⟩

/-- The record and the sequencer are all that the frame depends on. -/
theorem BusFrame.congr_left {s u t : State} (hu : u.trace = s.trace) (h : BusFrame u t) : BusFrame s t :=
  ⟨h.1.trans hu, h.2⟩

/-- In a state that meets the invariant the transaction in flight is allowed. -/
theorem BusFrame.refl_of_consistent {s : State} (h : Consistent s) : BusFrame s s := by
  refine ⟨rfl, fun job q pos hf => ?_⟩
  have hseq := h.seqOk
  simp only [SeqOk, hf] at hseq
  obtain ⟨-, -, -, hallowed⟩ := hseq
  exact hallowed

theorem BusFrame.orFail {s : State} {go : List Byte → State} (ans : Answer)
    (h : ∀ bytes, BusFrame s (go bytes)) : BusFrame s (orFail ans s go) := by
  cases ans with
  | ok bytes => exact h bytes
  | err code => exact .raise _ rfl

theorem BusFrame.orFailAt {s : State} {go : List Byte → State} (k : ProfileStep) (ans : Answer)
    (h : ∀ bytes, BusFrame s (go bytes)) : BusFrame s (orFailAt k ans s go) := by
  cases ans with
  | ok bytes => exact h bytes
  | err code => exact .raise _ rfl

theorem BusFrame.orFailZeroed {s : State} {go : List Byte → State} (ans : Answer)
    (h : ∀ bytes, BusFrame s (go bytes)) : BusFrame s (orFailZeroed ans s go) := by
  cases ans with
  | ok bytes => exact h bytes
  | err code => exact .raise _ rfl

/-- A block step has the frame when its script's first move and its later moves have it. -/
theorem BusFrame.blockStep {check : Job → Option Error} {start : Job → State}
    {resume : Job → Pos → Answer → Option State} {s t : State} (hs : BusFrame s s)
    (h : blockStep check start resume s = .next t) (hstart : ∀ job, BusFrame s (start job))
    (hresume : ∀ job pos ans t, resume job pos ans = some t → BusFrame s t) : BusFrame s t := by
  rcases blockStep_cases h with ⟨-, rfl⟩ | ⟨_, _, _, -, rfl⟩ | ⟨_, e, -, -, rfl⟩ | ⟨job, -, -, rfl⟩ |
    ⟨job, pos, ans, -, hr⟩
  · exact hs
  · exact hs
  · exact .raise e rfl
  · exact hstart job
  · exact hresume job pos ans t hr

/-! ### Field updates (R134, R143) -/

/-- The field stands in a register that R58 lets the block read singly and write. -/
def Field.Listed (f : Field) : Prop := f.addr ∈ [regCtrlHum, regCtrlMeas, regConfig]

theorem Field.Listed.allowed_read {f : Field} (hf : f.Listed) : allowed (.read f.addr 1) = true := by
  simp only [Listed, List.mem_cons, List.not_mem_nil, or_false] at hf
  rcases hf with hf | hf | hf <;> rw [hf] <;> decide

theorem Field.Listed.allowed_write {f : Field} (hf : f.Listed) (v : Byte) :
    allowed (.write f.addr v) = true := by
  simpa [allowed, Listed, regCtrlHum, regCtrlMeas, regConfig] using hf

/-- Every field of a profile is in one of the three registers (R143). -/
theorem Profile.field_listed (p : Profile) (k : ProfileStep) : (p.field k).Listed := by
  cases k <;> simp [field, Field.Listed, osrsTField, osrsPField, osrsHField, filterField, standbyField, modeField]

theorem startField_busFrame {f : Field} (hf : f.Listed) (pos : Pos) (job : Job) {s u : State}
    (hu : u.trace = s.trace) : BusFrame s (startField f pos job u) :=
  .issue hf.allowed_read hu

theorem writeField_busFrame {f : Field} (hf : f.Listed) (r : Byte) (pos : Pos) (job : Job) (s : State) :
    BusFrame s (writeField f r pos job s) :=
  .issue (hf.allowed_write _) rfl

theorem afterProfileStep_busFrame (p : Profile) (k : ProfileStep) (job : Job) (s : State) :
    BusFrame s (afterProfileStep p k job s) := by
  unfold afterProfileStep
  split
  · exact startField_busFrame (p.field_listed _) _ _ rfl
  · exact .complete rfl

theorem resumeProfile_busFrame {p : Profile} {s t : State} {job : Job} {pos : Pos} {ans : Answer}
    (h : resumeProfile p s job pos ans = some t) : BusFrame s t := by
  unfold resumeProfile at h
  split at h
  · cases h
    exact .orFailAt _ _ fun _ => writeField_busFrame (p.field_listed _) _ _ _ _
  · cases h
    exact .orFailAt _ _ fun _ => afterProfileStep_busFrame _ _ _ _
  · cases h

theorem resumeSetter_busFrame {f : Field} (hf : f.Listed) {s t : State} {job : Job} {pos : Pos} {ans : Answer}
    (h : resumeSetter f s job pos ans = some t) : BusFrame s t := by
  unfold resumeSetter at h
  split at h
  · cases h
    exact .orFail _ fun _ => writeField_busFrame hf _ _ _ _
  · cases h
    exact .orFail _ fun _ => .complete rfl
  · cases h

theorem setterStep_busFrame {f : Field} (hf : f.Listed) {named arg : Byte} {s t : State} (hs : BusFrame s s)
    (h : setterStep named arg f s = .next t) : BusFrame s t :=
  .blockStep hs h (fun _ => startField_busFrame hf _ _ rfl) fun _ _ _ _ => resumeSetter_busFrame hf

theorem resumeGetMode_busFrame {s t : State} {job : Job} {pos : Pos} {ans : Answer}
    (h : resumeGetMode s job pos ans = some t) : BusFrame s t := by
  unfold resumeGetMode at h
  split at h
  · cases h
    exact .orFail _ fun _ => .complete rfl
  · cases h

/-! ### The session (R152 to R162) -/

theorem checkId_busFrame (id : Byte) (job : Job) (s : State) : BusFrame s (checkId id job s) := by
  unfold checkId
  split
  · exact .issue (by decide) rfl
  · exact .raise _ rfl

theorem resumeInit_busFrame {s t : State} {job : Job} {pos : Pos} {ans : Answer}
    (h : resumeInit s job pos ans = some t) : BusFrame s t := by
  unfold resumeInit at h
  split at h
  · cases h
    exact .orFail _ fun _ => checkId_busFrame _ _ _
  · cases h
    exact .orFailZeroed _ fun _ => .issue (by decide) rfl
  · cases h
    exact .orFailZeroed _ fun _ => startField_busFrame (Profile.field_listed _ _) _ _ rfl
  · exact resumeProfile_busFrame h

theorem pollLoop_busFrame (job : Job) (s : State) : BusFrame s (pollLoop job s) := by
  rcases pollLoop_cases job s with ⟨-, h⟩ | ⟨-, h⟩ <;> rw [h]
  · exact .raise _ rfl
  · exact .issue (by decide) rfl

theorem forceMode_busFrame (m : Byte) (job : Job) (s : State) : BusFrame s (forceMode m job s) := by
  unfold forceMode
  dsimp only
  split
  · exact pollLoop_busFrame _ _
  · exact .issue rfl rfl

theorem takeStatus_busFrame (st : Byte) (job : Job) (s : State) : BusFrame s (takeStatus st job s) := by
  unfold takeStatus
  dsimp only
  split
  · exact pollLoop_busFrame _ _
  · exact .issue (by decide) rfl

theorem resumePrep_busFrame {s t : State} {job : Job} {pos : Pos} {ans : Answer}
    (h : resumePrep s job pos ans = some t) : BusFrame s t := by
  unfold resumePrep at h
  split at h
  · cases h
    exact .orFail _ fun _ => forceMode_busFrame _ _ _
  · cases h
    exact .orFail _ fun _ => pollLoop_busFrame _ _
  · cases h
    exact .orFail _ fun _ => takeStatus_busFrame _ _ _
  · cases h

theorem resumeGetT_busFrame {s t : State} {job : Job} {pos : Pos} {ans : Answer}
    (h : resumeGetT s job pos ans = some t) : BusFrame s t := by
  unfold resumeGetT at h
  split at h
  · cases h
    exact .orFail _ fun _ => .complete rfl
  · exact resumePrep_busFrame h

theorem resumeGetP_busFrame {s t : State} {job : Job} {pos : Pos} {ans : Answer}
    (h : resumeGetP s job pos ans = some t) : BusFrame s t := by
  unfold resumeGetP at h
  split at h
  · cases h
    exact .orFail _ fun _ => .issue (by decide) rfl
  · cases h
    exact .orFail _ fun _ => .complete rfl
  · exact resumePrep_busFrame h

theorem resumeGetH_busFrame {s t : State} {job : Job} {pos : Pos} {ans : Answer}
    (h : resumeGetH s job pos ans = some t) : BusFrame s t := by
  unfold resumeGetH at h
  split at h
  · cases h
    exact .orFail _ fun _ => .issue (by decide) rfl
  · cases h
    exact .orFail _ fun _ => .complete rfl
  · exact resumePrep_busFrame h

theorem measureStep_busFrame {resume : Job → Pos → Answer → Option State} {s t : State} (hs : BusFrame s s)
    (h : measureStep resume s = .next t)
    (hresume : ∀ job pos ans t, resume job pos ans = some t → BusFrame s t) : BusFrame s t :=
  .blockStep hs h (fun _ => .issue (by decide) rfl) hresume

/-! ### Every command, every agent -/

/-- A block step of any command (R58). -/
theorem exec_busFrame {i : Instr} {s t : State} (hs : BusFrame s s) (h : exec i s = .next t) : BusFrame s t := by
  cases i with
  | init =>
    rw [exec, execInit] at h
    exact .blockStep hs h (fun _ => .issue (by decide) rfl) fun _ _ _ _ => resumeInit_busFrame
  | getT => exact measureStep_busFrame hs h fun _ _ _ _ => resumeGetT_busFrame
  | getP => exact measureStep_busFrame hs h fun _ _ _ _ => resumeGetP_busFrame
  | getH => exact measureStep_busFrame hs h fun _ _ _ _ => resumeGetH_busFrame
  | compT =>
    rw [exec, execCompT] at h
    exact .blockStep hs h (fun _ => .complete rfl) fun _ _ _ _ => nofun
  | compP =>
    rw [exec, execCompP] at h
    exact .blockStep hs h (fun _ => .complete rfl) fun _ _ _ _ => nofun
  | compH =>
    rw [exec, execCompH] at h
    exact .blockStep hs h (fun _ => .complete rfl) fun _ _ _ _ => nofun
  | setOsrsT arg => exact setterStep_busFrame (by simp [Field.Listed, osrsTField]) hs h
  | setOsrsP arg => exact setterStep_busFrame (by simp [Field.Listed, osrsPField]) hs h
  | setOsrsH arg => exact setterStep_busFrame (by simp [Field.Listed, osrsHField]) hs h
  | setFilter arg => exact setterStep_busFrame (by simp [Field.Listed, filterField]) hs h
  | setStandby arg => exact setterStep_busFrame (by simp [Field.Listed, standbyField]) hs h
  | setMode arg => exact setterStep_busFrame (by simp [Field.Listed, modeField]) hs h
  | getMode => exact .blockStep hs h (fun _ => .issue (by decide) rfl) fun _ _ _ _ => resumeGetMode_busFrame
  | applyProfile arg =>
    exact .blockStep hs h (fun _ => startField_busFrame (Profile.field_listed _ _) _ _ rfl)
      fun _ _ _ _ => resumeProfile_busFrame

/-- A host write puts no transaction in flight: it accepts a command, or leaves the sequencer alone. -/
theorem hostStore_busFrame (offset : Nat) (v : Word) {s : State} (hs : BusFrame s s) :
    BusFrame s (hostStore offset v s) := by
  unfold hostStore
  split
  · split
    · exact .of_seq_eq rfl rfl hs
    · exact ⟨rfl, nofun⟩
  · split
    · exact .of_seq_eq rfl rfl hs
    · exact hs

theorem hostStep_busFrame {m : HostMove} {s t : State} (hs : BusFrame s s) (h : hostStep m s = .next t) :
    BusFrame s t := by
  rcases hostStep_cases h with ⟨offset, size, v, -, -, rfl⟩ | ⟨offset, size, -, -, rfl⟩ | ⟨-, rfl⟩ | ⟨-, rfl⟩
  · exact hostStore_busFrame offset v hs
  · exact .of_seq_eq rfl rfl hs
  · exact hs
  · exact .of_idle rfl rfl

/-- A step adds nothing to the record but the transaction in flight, which it answers. -/
theorem step_busFrame_or_answered {s t : State} (hs : BusFrame s s) (h : step s = .next t) :
    BusFrame s t ∨ ∃ job q pos ans, s.seq = .flight job q pos ∧ t.seq = .ready job pos ans ∧
      t.trace = s.trace ++ [⟨s.params.slaveAddr, q, ans⟩] := by
  have moves {u : State} (hu : MovesFrom s u) : u.trace = s.trace ∧ BusFrame u u := by
    obtain ⟨hseq, hu⟩ := movesFrom_seq hu
    have htrace : u.trace = s.trace := by rw [hu]
    exact ⟨htrace, rfl, hseq ▸ hs.2⟩
  rcases step_cases h with ⟨m, rest, -, -, hh⟩ | ⟨m, rest, -, rfl⟩ | ⟨u, job, i, hu, -, -, he⟩ |
    ⟨u, job, r, hu, -, -, rfl⟩ | ⟨u, job, q, pos, hu, hf, rfl⟩ | ⟨hu, -⟩
  · exact .inl ((hostStep_busFrame (s := { s with inputs := rest }) ⟨rfl, hs.2⟩ hh).congr_left rfl)
  · exact .inl (.of_seq_eq rfl rfl hs)
  · exact .inl ((exec_busFrame (moves hu).2 he).congr_left (moves hu).1)
  · exact .inl (.raise _ (moves hu).1)
  · obtain ⟨-, hu⟩ := movesFrom_seq hu
    exact .inr ⟨job, q, pos, _, hf, rfl, by rw [hu]; rfl⟩
  · exact .inl ((moves hu).2.congr_left (moves hu).1)

/-! ## The transport's answers (R63 to R65) -/

/-- The step that answers the transaction in flight: the answer, what it does to the sensor, and its entry in the
record. -/
theorem step_answer_effect {s u : State} {job : Job} {q : Request} {pos : Pos} (h : MovesFrom s u)
    (hs : s.seq = .flight job q pos) :
    ∃ t, step s = .next t ∧ t.seq = .ready job pos (answerOf q (nextReply s) s.sensor) ∧
      t.sensor = sensorAfter q (nextReply s) s.freeCount s.sensor ∧
      t.trace = s.trace ++ [⟨s.params.slaveAddr, q, answerOf q (nextReply s) s.sensor⟩] := by
  obtain ⟨-, hu⟩ := movesFrom_seq h
  refine ⟨_, step_answer h hs, ?_⟩
  rw [hu]
  exact ⟨rfl, rfl, rfl⟩

/-- A burst inside the space does not wrap (R64). -/
theorem burstAddr_of_lt {a : Byte} {i : Nat} (h : a.toNat + i < 256) : burstAddr a i = a.toNat + i :=
  Nat.mod_eq_of_lt h

theorem readBytes_length (bytes : List Byte) (a : Byte) (n : Nat) (x : Sensor) :
    (readBytes bytes a n x).length = n := by
  simp [readBytes]

/-- Byte `i` of a burst that no reply overrides is register `a + i` (R64). -/
theorem readBytes_nil_getElem? {a : Byte} {n i : Nat} (x : Sensor) (hn : a.toNat + n ≤ 256) (hi : i < n) :
    (readBytes [] a n x)[i]? = some (Memory.read x.mem (a.toNat + i)) := by
  simp [readBytes, hi, burstAddr_of_lt (a := a) (i := i) (by omega)]

end Sys2Proof.Machine

namespace Sys2Proof.Proofs

open Sys2Proof.Machine Sys2Proof.Safety

/-- Settles O56: a step either leaves the record alone and puts only allowed transactions in flight, or moves the
transaction in flight into the record, and the invariant allows that one. -/
theorem busTouchesOnlyTheListedAddresses : Obligations.BusTouchesOnlyTheListedAddresses := by
  intro s t hc hbus h
  have hs := BusFrame.refl_of_consistent hc
  rcases step_busFrame_or_answered hs h with ⟨htrace, hflight⟩ | ⟨job, q, pos, ans, hf, hready, htrace⟩
  · exact ⟨fun e he => hbus e (htrace ▸ he), hflight⟩
  · refine ⟨fun e he => ?_, fun _ _ _ hfly => by simp [hready] at hfly⟩
    rw [htrace, List.mem_append, List.mem_singleton] at he
    rcases he with he | rfl
    · exact hbus e he
    · exact hs.2 job q pos hf

/-- Settles O8: the access check decides refusal, `hostRegister` gives each row of the map, and `hostStore` acts
at `CMD` and `ARG` only. -/
theorem hostWindowFollowsItsMap : Obligations.HostWindowFollowsItsMap := by
  refine ⟨fun s rest offset size v hbad => ?_, fun s rest offset hal hlt h => ?_, fun s rest v h => ?_,
    fun s rest offset v hal hlt hcmd harg h => ?_, fun s rest w h => ?_⟩
  · have hl := hostAccessLegal_eq_false hbad
    exact ⟨fun h => step_host_write_refused h hl, fun h => step_host_read_refused h hl⟩
  · refine ⟨_, step_host_read h (hostAccessLegal_iff.mpr ⟨rfl, hal, hlt⟩), ?_, ?_, ?_, ?_, ?_, ?_, ?_, ?_⟩
    · rintro rfl; rfl
    · rintro rfl; rfl
    · rintro rfl; rfl
    · rintro rfl; rfl
    · rintro rfl; rfl
    · exact fun hlo hhi => hostRegister_reserved (.inl ⟨hlo, hhi⟩) s
    · rintro i hi rfl
      have hindex : (0x20 + 4 * i - 0x20) / 4 = i := by omega
      rw [hostRegister_calib (by omega) (by omega), hindex]
    · exact fun hhi => hostRegister_reserved (.inr hhi) s
  · exact step_host_write h (by decide)
  · rw [step_host_write h (hostAccessLegal_iff.mpr ⟨rfl, hal, hlt⟩), hostStore_ignored hcmd harg]
  · refine ⟨_, step_host_write h (by decide), hostStore_inputs _ _ _, fun hb => ?_⟩
    rw [hostStore_cmd_of_not_busy (s := { s with inputs := rest }) hb]
    exact ⟨rfl, _, rfl, rfl⟩

/-- Settles O49: both clauses read the answering step's effect off `step_answer_effect`, with the reply that the
clause fixes. -/
theorem readsReturnConsecutiveRegisters : Obligations.ReadsReturnConsecutiveRegisters := by
  intro s u job a n pos hu hs
  obtain ⟨t, hstep, hseq, hsensor, htrace⟩ := step_answer_effect hu hs
  refine ⟨fun hr hn => ?_, fun c rest hr => ?_⟩
  · have hreply : nextReply s = .ok [] := by simp [nextReply, hr]
    rw [hreply] at hseq hsensor htrace
    exact ⟨t, _, hstep, hseq, readBytes_length [] a n s.sensor,
      fun i hi => readBytes_nil_getElem? s.sensor hn hi, hsensor, htrace⟩
  · have hreply : nextReply s = .err c := by simp [nextReply, hr]
    rw [hreply] at hseq hsensor htrace
    exact ⟨t, hstep, hseq, hsensor, htrace⟩

end Sys2Proof.Proofs

namespace Sys2Proof.Machine

/-! ## The decoder and the encoder are inverse on legal commands (R80 to R89) -/

theorem argLegal_zero_iff {arg : Byte} : argLegal 0x00#8 arg = true ↔ arg = 0 := by
  rw [argLegal, beq_iff_eq, show ~~~0x00#8 = BitVec.allOnes 8 from rfl, BitVec.and_allOnes]

/-- What a row of the opcode map says of its command (R82); a row that names no argument bit gives a command
without argument. -/
theorem opcodeMap_some {op arg named : Byte} {i : Instr} (h : opcodeMap op arg = some (named, i)) :
    i.op = op ∧ i.argNamed = named ∧ (i.arg = arg ∨ named = 0x00#8 ∧ i.arg = 0) := by
  unfold opcodeMap at h
  split at h
  case h_16 => cases h
  all_goals
    next hop =>
      cases h
      exact ⟨(BitVec.eq_of_toNat_eq hop).symm, rfl, by simp [Instr.arg]⟩

/-- A command's word is the word with the command's three fields (R80). -/
theorem encode_eq_of_fields {w : Word} {i : Instr} (hz : zeroField w = 0) (ha : i.arg = argField w)
    (ho : i.op = opField w) : encode i = w := by
  apply BitVec.eq_of_getLsbD_eq
  intro k hk
  by_cases hop : k < 8
  · simp [encode, ha, ho, argField, opField, hop, hk]
  · by_cases harg : k < 16
    · have hsub : 8 + (k - 8) = k := by omega
      have hlow : k - 8 < 8 := by omega
      simp [encode, ha, ho, argField, opField, hk, hop, hsub, hlow]
    · have hbit : w.getLsbD k = false := by
        have hsub : 16 + (k - 16) = k := by omega
        have hlow : k - 16 < 16 := by omega
        simpa [zeroField, hsub, hlow] using congrArg (·.getLsbD (k - 16)) hz
      have hhigh : ¬ k - 8 < 8 := by omega
      simp [encode, ha, ho, argField, opField, hop, hhigh, hbit]

/-- The opcode map gives every command back from its opcode and argument byte (R82). -/
theorem opcodeMap_op_arg (i : Instr) : opcodeMap i.op i.arg = some (i.argNamed, i) := by
  cases i <;> rfl

/-- Decoding the word of a legal command gives the command back. -/
theorem decode_encode {i : Instr} (h : i.WellFormed = true) : decode (encode i) = .ok i := by
  have harg : argLegal i.argNamed i.arg = true := h
  simp [decode, Laws.WordFields.zeroField_encode, Laws.WordFields.argField_encode,
    Laws.WordFields.opField_encode, opcodeMap_op_arg, harg]

/-- A word that decodes is the word of its command, and that command is legal. -/
theorem decode_ok {w : Word} {i : Instr} (h : decode w = .ok i) : i.WellFormed = true ∧ encode i = w := by
  unfold decode at h
  split at h
  · cases h
  next hz =>
    split at h
    · cases h
    next named j hmap =>
      split at h
      · next hlegal =>
        cases h
        obtain ⟨hop, rfl, harg⟩ := opcodeMap_some hmap
        have harg : i.arg = argField w := by
          rcases harg with harg | ⟨hnamed, harg⟩
          · exact harg
          · rw [hnamed, argLegal_zero_iff] at hlegal
            rw [harg, hlegal]
        refine ⟨?_, encode_eq_of_fields (not_not.mp hz) harg hop⟩
        rw [Instr.WellFormed, harg]
        exact hlegal
      · cases h

/-! ## Host writes to `CMD` and `ARG` (R85, R86) -/

/-- A `CMD` write while busy is dropped (R86). -/
theorem hostStore_cmd_of_busy {s : State} (hb : s.status.busy = true) (w : Word) :
    hostStore 0x00 w s = dropped s := by
  simp [hostStore, hb]

/-- The state after a host write of `v` to `ARG` (R25). -/
def withArg (v : Word) (s : State) : State := { s with arg := v }

theorem hostStore_arg (v : Word) (s : State) : hostStore 0x08 v s = withArg v s := rfl

/-! ### No command's step depends on `ARG`

A command reads the operand latched at acceptance (R85), so each piece of a script commutes with an `ARG` write. -/

theorem orFail_withArg (v : Word) (ans : Answer) (s : State) {go go' : List Byte → State}
    (hgo : ∀ bytes, go' bytes = withArg v (go bytes)) :
    orFail ans (withArg v s) go' = withArg v (orFail ans s go) := by
  cases ans with
  | ok bytes => exact hgo bytes
  | err code => rfl

theorem orFailAt_withArg (v : Word) (k : ProfileStep) (ans : Answer) (s : State) {go go' : List Byte → State}
    (hgo : ∀ bytes, go' bytes = withArg v (go bytes)) :
    orFailAt k ans (withArg v s) go' = withArg v (orFailAt k ans s go) := by
  cases ans with
  | ok bytes => exact hgo bytes
  | err code => rfl

theorem orFailZeroed_withArg (v : Word) (ans : Answer) (s : State) {go go' : List Byte → State}
    (hgo : ∀ bytes, go' bytes = withArg v (go bytes)) :
    orFailZeroed ans (withArg v s) go' = withArg v (orFailZeroed ans s go) := by
  cases ans with
  | ok bytes => exact hgo bytes
  | err code => rfl

/-- A block step commutes with an `ARG` write when the three parts of its script do. -/
theorem blockStep_withArg {v : Word} {check check' : Job → Option Error} {start start' : Job → State}
    {resume resume' : Job → Pos → Answer → Option State} {s t : State}
    (h : blockStep check start resume s = .next t) (hcheck : ∀ job, check' job = check job)
    (hstart : ∀ job, start' job = withArg v (start job))
    (hresume : ∀ job pos ans, resume' job pos ans = (resume job pos ans).map (withArg v)) :
    blockStep check' start' resume' (withArg v s) = .next (withArg v t) := by
  rcases blockStep_cases h with ⟨hs, rfl⟩ | ⟨job, q, pos, hs, rfl⟩ | ⟨job, e, hs, hc, rfl⟩ |
    ⟨job, hs, hc, rfl⟩ | ⟨job, pos, ans, hs, hr⟩
  · exact blockStep_idle (s := withArg v t) hs
  · simp [blockStep, withArg, hs]
  · exact blockStep_start_error (s := withArg v s) hs ((hcheck job).trans hc)
  · rw [blockStep_start (s := withArg v s) hs ((hcheck job).trans hc), hstart]
  · exact blockStep_ready (s := withArg v s) hs (by rw [hresume, hr]; rfl)

theorem resumeSetter_withArg (v : Word) (f : Field) (s : State) (job : Job) (pos : Pos) (ans : Answer) :
    resumeSetter f (withArg v s) job pos ans = (resumeSetter f s job pos ans).map (withArg v) := by
  unfold resumeSetter
  split
  · exact congrArg some (orFail_withArg v _ _ fun _ => rfl)
  · exact congrArg some (orFail_withArg v _ _ fun _ => rfl)
  · rfl

theorem setterStep_withArg {v : Word} {named arg : Byte} {f : Field} {s t : State}
    (h : setterStep named arg f s = .next t) : setterStep named arg f (withArg v s) = .next (withArg v t) :=
  blockStep_withArg h (fun _ => rfl) (fun _ => rfl) (resumeSetter_withArg v f s)

theorem resumeGetMode_withArg (v : Word) (s : State) (job : Job) (pos : Pos) (ans : Answer) :
    resumeGetMode (withArg v s) job pos ans = (resumeGetMode s job pos ans).map (withArg v) := by
  unfold resumeGetMode
  split
  · exact congrArg some (orFail_withArg v _ _ fun _ => rfl)
  · rfl

theorem afterProfileStep_withArg (v : Word) (p : Profile) (k : ProfileStep) (job : Job) (s : State) :
    afterProfileStep p k job (withArg v s) = withArg v (afterProfileStep p k job s) := by
  cases k <;> rfl

theorem resumeProfile_withArg (v : Word) (p : Profile) (s : State) (job : Job) (pos : Pos) (ans : Answer) :
    resumeProfile p (withArg v s) job pos ans = (resumeProfile p s job pos ans).map (withArg v) := by
  unfold resumeProfile
  split
  · exact congrArg some (orFailAt_withArg v _ _ _ fun _ => rfl)
  · exact congrArg some (orFailAt_withArg v _ _ _ fun _ => afterProfileStep_withArg v _ _ _ _)
  · rfl

theorem checkId_withArg (v : Word) (id : Byte) (job : Job) (s : State) :
    checkId id job (withArg v s) = withArg v (checkId id job s) := by
  unfold checkId
  rw [apply_ite (withArg v)]
  rfl

theorem resumeInit_withArg (v : Word) (s : State) (job : Job) (pos : Pos) (ans : Answer) :
    resumeInit (withArg v s) job pos ans = (resumeInit s job pos ans).map (withArg v) := by
  unfold resumeInit
  split
  · exact congrArg some (orFail_withArg v _ _ fun _ => checkId_withArg v _ _ _)
  · exact congrArg some (orFailZeroed_withArg v _ _ fun _ => rfl)
  · exact congrArg some (orFailZeroed_withArg v _ _ fun _ => rfl)
  · exact resumeProfile_withArg v _ _ _ _ _

theorem pollLoop_withArg (v : Word) (job : Job) (s : State) :
    pollLoop job (withArg v s) = withArg v (pollLoop job s) := by
  unfold pollLoop
  rw [apply_ite (withArg v)]
  rfl

theorem forceMode_withArg (v : Word) (m : Byte) (job : Job) (s : State) :
    forceMode m job (withArg v s) = withArg v (forceMode m job s) := by
  unfold forceMode
  dsimp only
  split
  · exact pollLoop_withArg v _ _
  · rfl

theorem takeStatus_withArg (v : Word) (st : Byte) (job : Job) (s : State) :
    takeStatus st job (withArg v s) = withArg v (takeStatus st job s) := by
  unfold takeStatus
  dsimp only
  split
  · exact pollLoop_withArg v _ _
  · rfl

theorem resumePrep_withArg (v : Word) (s : State) (job : Job) (pos : Pos) (ans : Answer) :
    resumePrep (withArg v s) job pos ans = (resumePrep s job pos ans).map (withArg v) := by
  unfold resumePrep
  split
  · exact congrArg some (orFail_withArg v _ _ fun _ => forceMode_withArg v _ _ _)
  · exact congrArg some (orFail_withArg v _ _ fun _ => pollLoop_withArg v _ _)
  · exact congrArg some (orFail_withArg v _ _ fun _ => takeStatus_withArg v _ _ _)
  · rfl

theorem resumeGetT_withArg (v : Word) (s : State) (job : Job) (pos : Pos) (ans : Answer) :
    resumeGetT (withArg v s) job pos ans = (resumeGetT s job pos ans).map (withArg v) := by
  unfold resumeGetT
  split
  · exact congrArg some (orFail_withArg v _ _ fun _ => rfl)
  · exact resumePrep_withArg v _ _ _ _

theorem resumeGetP_withArg (v : Word) (s : State) (job : Job) (pos : Pos) (ans : Answer) :
    resumeGetP (withArg v s) job pos ans = (resumeGetP s job pos ans).map (withArg v) := by
  unfold resumeGetP
  split
  · exact congrArg some (orFail_withArg v _ _ fun _ => rfl)
  · exact congrArg some (orFail_withArg v _ _ fun _ => rfl)
  · exact resumePrep_withArg v _ _ _ _

theorem resumeGetH_withArg (v : Word) (s : State) (job : Job) (pos : Pos) (ans : Answer) :
    resumeGetH (withArg v s) job pos ans = (resumeGetH s job pos ans).map (withArg v) := by
  unfold resumeGetH
  split
  · exact congrArg some (orFail_withArg v _ _ fun _ => rfl)
  · exact congrArg some (orFail_withArg v _ _ fun _ => rfl)
  · exact resumePrep_withArg v _ _ _ _

/-- A command's step from a state with another `ARG` is its step, with that `ARG` (R85). -/
theorem exec_withArg {i : Instr} {s t : State} (v : Word) (h : exec i s = .next t) :
    exec i (withArg v s) = .next (withArg v t) := by
  cases i with
  | init =>
    unfold exec at h ⊢
    exact blockStep_withArg h (fun _ => rfl) (fun _ => rfl) (resumeInit_withArg v s)
  | getT => exact blockStep_withArg h (fun _ => rfl) (fun _ => rfl) (resumeGetT_withArg v s)
  | getP => exact blockStep_withArg h (fun _ => rfl) (fun _ => rfl) (resumeGetP_withArg v s)
  | getH => exact blockStep_withArg h (fun _ => rfl) (fun _ => rfl) (resumeGetH_withArg v s)
  | compT | compP | compH =>
    unfold exec at h ⊢
    exact blockStep_withArg h (fun _ => rfl) (fun _ => rfl) (fun _ _ _ => rfl)
  | setOsrsT | setOsrsP | setOsrsH | setFilter | setStandby | setMode => exact setterStep_withArg h
  | getMode => exact blockStep_withArg h (fun _ => rfl) (fun _ => rfl) (resumeGetMode_withArg v s)
  | applyProfile => exact blockStep_withArg h (fun _ => rfl) (fun _ => rfl) (resumeProfile_withArg v _ s)

/-! ## The poll (R158) -/

/-- A measurement command whose status read has been answered takes the status byte. -/
theorem exec_poll {i : Instr} (hi : Safety.Measures i) {s : State} {job : Job} {st : Byte}
    (hs : s.seq = .ready job .poll (.ok [st])) : exec i s = .next (takeStatus st job s) := by
  rcases hi with rfl | rfl | rfl <;> exact blockStep_ready hs rfl

/-- With the measuring bit clear the poll ends and the temperature burst follows (R160). -/
theorem takeStatus_of_clear {st : Byte} (h : measuringBit st = false) (job : Job) (s : State) :
    takeStatus st job s = issue { job with pollCount := job.pollCount + 1 } (.read regTemp 3) .temp s := by
  simp [takeStatus, h]

/-- With the measuring bit set the read is counted and the poll goes on (R158). -/
theorem takeStatus_of_measuring {st : Byte} (h : measuringBit st = true) (job : Job) (s : State) :
    takeStatus st job s = pollLoop { job with pollCount := job.pollCount + 1 } s := by
  simp [takeStatus, h]

theorem pollLoop_at_limit {job : Job} {s : State} (h : s.params.pollLimit = some job.pollCount) :
    pollLoop job s = raise .timeout s :=
  if_pos h

theorem pollLoop_below_limit {job : Job} {s : State} (h : s.params.pollLimit ≠ some job.pollCount) :
    pollLoop job s = issue job (.read regStatus 1) .poll s :=
  if_neg h

/-! ## Byte sequences as numbers (R11, R99 to R104) -/

/-- `wrap_N` (R11) is the balanced remainder modulo 2^N. -/
theorem wrap_eq_bmod {n : Nat} (hn : 0 < n) (v : Int) : Safety.wrap n v = v.bmod (2 ^ n) := by
  have hpow : (2 : Int) ^ n = 2 * 2 ^ (n - 1) := by rw [← pow_succ', Nat.sub_add_cancel hn]
  have hpos : (0 : Int) < 2 ^ (n - 1) := by positivity
  have hm : (0 : Int) < 2 * 2 ^ (n - 1) := by positivity
  have hlo := Int.emod_nonneg (v + 2 ^ (n - 1)) hm.ne'
  have hhi := Int.emod_lt_of_pos (v + 2 ^ (n - 1)) hm
  have hdiv := Int.mul_ediv_add_emod (v + 2 ^ (n - 1)) (2 * 2 ^ (n - 1))
  symm
  rw [Int.bmod_eq_iff (by positivity), Safety.wrap]
  push_cast
  rw [hpow]
  refine ⟨by omega, by omega, -((v + 2 ^ (n - 1)) / (2 * 2 ^ (n - 1))), by linarith⟩

/-- The signed value of a bit vector is its unsigned value wrapped (R11). -/
theorem toInt_eq_wrap {n : Nat} (hn : 0 < n) (x : BitVec n) : x.toInt = Safety.wrap n x.toNat := by
  rw [wrap_eq_bmod hn, BitVec.toInt_eq_toNat_bmod]

/-- Two fields side by side in a wider word: `hi` above the `k` bits that hold `lo`. -/
theorem toNat_shiftLeft_or {m w k : Nat} (hi : BitVec m) (lo : BitVec w) (hhi : hi.toNat * 2 ^ k < 2 ^ w)
    (hlo : lo.toNat < 2 ^ k) : (hi.zeroExtend w <<< k ||| lo).toNat = hi.toNat * 2 ^ k + lo.toNat := by
  have hfit : hi.toNat < 2 ^ w := lt_of_le_of_lt (Nat.le_mul_of_pos_right _ (by positivity)) hhi
  have hshift : (hi.zeroExtend w <<< k).toNat = hi.toNat <<< k := by
    simp [Nat.mod_eq_of_lt hfit, Nat.shiftLeft_eq, Nat.mod_eq_of_lt hhi]
  rw [BitVec.toNat_or, hshift, ← Nat.shiftLeft_add_eq_or_of_lt hlo, Nat.shiftLeft_eq]

theorem toNat_highNibble (b : Byte) : (b >>> 4).toNat = b.toNat / 16 := by
  simp [Nat.shiftRight_eq_div_pow]

theorem toNat_lowNibble (b : Byte) : (b &&& 0x0F#8).toNat = b.toNat % 16 := by
  rw [BitVec.toNat_and]
  exact Nat.and_two_pow_sub_one_eq_mod b.toNat 4

theorem toNat_adc16 (b : List Byte) : (adc16 b).toNat = (byteAt b 0).toNat * 256 + (byteAt b 1).toNat := by
  have hhi := (byteAt b 0).isLt
  have hlo : ((byteAt b 1).zeroExtend 16).toNat = (byteAt b 1).toNat :=
    BitVec.toNat_setWidth_of_le (by decide)
  rw [adc16, toNat_shiftLeft_or _ _ (by omega) (by omega), hlo]
  norm_num

theorem toNat_le16 (img : List Byte) (i : Nat) :
    (le16 img i).toNat = (byteAt img i).toNat + 256 * (byteAt img (i + 1)).toNat := by
  have hhi := (byteAt img (i + 1)).isLt
  have hlo : ((byteAt img i).zeroExtend 16).toNat = (byteAt img i).toNat :=
    BitVec.toNat_setWidth_of_le (by decide)
  rw [le16, BitVec.or_comm, toNat_shiftLeft_or _ _ (by omega) (by omega), hlo]
  ring

theorem toNat_adc20 (b : List Byte) :
    (adc20 b).toNat =
      ((byteAt b 0).toNat * 65536 + (byteAt b 1).toNat * 256 + (byteAt b 2).toNat) / 16 := by
  have h0 := (byteAt b 0).isLt
  have h1 := (byteAt b 1).isLt
  have hlast : ((byteAt b 2 >>> 4).zeroExtend 20).toNat = (byteAt b 2).toNat / 16 := by
    rw [BitVec.toNat_setWidth_of_le (by decide), toNat_highNibble]
  have hlow := toNat_shiftLeft_or (k := 4) (byteAt b 1) ((byteAt b 2 >>> 4).zeroExtend 20) (by omega) (by omega)
  rw [adc20, BitVec.or_assoc, toNat_shiftLeft_or _ _ (by omega) (by omega), hlow, hlast]
  omega

theorem toNat_h4Packed (img : List Byte) :
    (h4Packed img).toNat = 16 * (byteAt img 29).toNat + (byteAt img 30).toNat % 16 := by
  have hhi := (byteAt img 29).isLt
  have hlo : ((byteAt img 30 &&& 0x0F#8).zeroExtend 12).toNat = (byteAt img 30).toNat % 16 := by
    rw [BitVec.toNat_setWidth_of_le (by decide), toNat_lowNibble]
  rw [h4Packed, toNat_shiftLeft_or _ _ (by omega) (by omega), hlo]
  omega

theorem toNat_h5Packed (img : List Byte) :
    (h5Packed img).toNat = 16 * (byteAt img 31).toNat + (byteAt img 30).toNat / 16 := by
  have hhi := (byteAt img 31).isLt
  have hlo : ((byteAt img 30 >>> 4).zeroExtend 12).toNat = (byteAt img 30).toNat / 16 := by
    rw [BitVec.toNat_setWidth_of_le (by decide), toNat_highNibble]
  rw [h5Packed, toNat_shiftLeft_or _ _ (by omega) (by omega), hlo]
  omega

/-- A signed little-endian coefficient (R103). -/
theorem toInt_le16 (img : List Byte) (i : Nat) :
    (le16 img i).toInt = Safety.wrap 16 ((byteAt img i).toNat + 256 * (byteAt img (i + 1)).toNat : Nat) := by
  rw [toInt_eq_wrap (by decide), toNat_le16]

/-! ## The two widenings of a 12-bit coefficient (R104) -/

theorem toInt_ext12_sext12 (v : BitVec 12) : (ext12 .sext12 v).toInt = Safety.wrap 12 v.toNat := by
  rw [ext12, BitVec.toInt_signExtend_of_le (by decide), toInt_eq_wrap (by decide)]

theorem toInt_ext12_zext12 (v : BitVec 12) : (ext12 .zext12 v).toInt = v.toNat := by
  have hw : (v.zeroExtend 16).toNat = v.toNat := BitVec.toNat_setWidth_of_le (by decide)
  have hv := v.isLt
  rw [ext12, BitVec.toInt_eq_toNat_of_lt (by omega), hw]

/-- The widenings agree on a coefficient whose top bit is clear. -/
theorem ext12_sext12_eq_zext12 {v : BitVec 12} (h : v.toNat < 2048) : ext12 .sext12 v = ext12 .zext12 v :=
  BitVec.signExtend_eq_setWidth_of_msb_false (BitVec.msb_eq_false_iff_two_mul_lt.mpr (by omega))

end Sys2Proof.Machine

namespace Sys2Proof.Proofs

open Sys2Proof.Machine Sys2Proof.Safety

/-- Settles O2: a word that decodes is the word of its command, and decoding the word of any legal command gives that
command back, so no other has this word and none has a word that is rejected. -/
theorem wordSelectsOneCommandOrIsIllegal : Obligations.WordSelectsOneCommandOrIsIllegal := by
  intro w
  cases hw : decode w with
  | ok i =>
    obtain ⟨hlegal, hword⟩ := decode_ok hw
    refine .inl ⟨i, rfl, hlegal, hword, fun j hj hjw => ?_⟩
    have hdecode := decode_encode hj
    rw [hjw, hw] at hdecode
    exact (Except.ok.inj hdecode).symm
  | error r =>
    refine .inr ⟨r, rfl, fun j hj hjw => ?_⟩
    have hdecode := decode_encode hj
    rw [hjw, hw] at hdecode
    cases hdecode

/-- Settles O6: the write is a legal access that `hostStore` turns into `accept`, and every command's step commutes
with a change of `ARG`. -/
theorem commandWriteIsAccepted : Obligations.CommandWriteIsAccepted := by
  refine ⟨fun s w rest hi hb => ?_, fun i s t v h => exec_withArg v h⟩
  refine ⟨⟨w, s.arg, 0, 0, []⟩, rfl, rfl, rfl, ?_⟩
  rw [step_host_write hi (by decide), hostStore_cmd_of_not_busy (s := { s with inputs := rest }) hb]
  rfl

/-- Settles O7: the write is a legal access that `hostStore` drops. -/
theorem commandWriteWhileBusyIsDropped : Obligations.CommandWriteWhileBusyIsDropped := by
  intro s w rest hi hb
  rw [step_host_write hi (by decide), hostStore_cmd_of_busy (s := { s with inputs := rest }) hb]
  rfl

/-- Settles O21: the shifted bytes of a raw value do not overlap, so their bitwise or is a sum. -/
theorem rawValuesAreBigEndian : Obligations.RawValuesAreBigEndian :=
  ⟨fun b0 b1 b2 => toNat_adc20 [b0, b1, b2], fun b0 b1 => toNat_adc16 [b0, b1]⟩

/-- Settles O22: the values are those of `le16`, of the packed coefficients and of their widenings, and both decoders
are functions of the bytes of their own block. -/
theorem calibrationImageDecodes : Obligations.CalibrationImageDecodes := by
  refine ⟨fun img c => ⟨?_, rfl, rfl, rfl, rfl, rfl⟩, fun ext img c => ⟨⟨?_, rfl, ?_, ?_, ?_⟩, ?_⟩,
    fun img c h29 h31 => ?_, fun img img' c h => ?_, fun ext img img' c h => ?_⟩
  · exact ⟨toNat_le16 img 0, toInt_le16 img 2, toInt_le16 img 4, toNat_le16 img 6, toInt_le16 img 8,
      toInt_le16 img 10, toInt_le16 img 12, toInt_le16 img 14, toInt_le16 img 16, toInt_le16 img 18,
      toInt_le16 img 20, toInt_le16 img 22, rfl⟩
  · exact toInt_le16 img 26
  · rintro rfl
    rw [← toNat_h4Packed, ← toNat_h5Packed]
    exact ⟨toInt_ext12_sext12 _, toInt_ext12_sext12 _⟩
  · rintro rfl
    rw [← toNat_h4Packed, ← toNat_h5Packed]
    exact ⟨toInt_ext12_zext12 _, toInt_ext12_zext12 _⟩
  · exact toInt_eq_wrap (by decide) (byteAt img 32)
  · exact ⟨rfl, rfl, rfl, rfl, rfl, rfl, rfl, rfl, rfl, rfl, rfl, rfl, rfl⟩
  · have h4 : (h4Packed img).toNat < 2048 := by rw [toNat_h4Packed]; omega
    have h5 : (h5Packed img).toNat < 2048 := by rw [toNat_h5Packed]; omega
    simp only [decodeB, ext12_sext12_eq_zext12 h4, ext12_sext12_eq_zext12 h5]
  · simp [decodeA, le16, h]
  · simp [decodeB, le16, h4Packed, h5Packed, h]

/-- Settles O37: the status read is taken, and the measuring bit, then the poll bound, decide how the poll goes on. -/
theorem pollIsBounded : Obligations.PollIsBounded := by
  intro i hi s job st hs
  rw [exec_poll hi hs]
  refine ⟨fun hbit => ?_, fun hbit hlimit => ?_, fun hbit hlimit => ?_⟩
  · rw [takeStatus_of_clear hbit]
    rfl
  · rw [takeStatus_of_measuring hbit, pollLoop_at_limit hlimit]
    rfl
  · rw [takeStatus_of_measuring hbit, pollLoop_below_limit hlimit]
    rfl

end Sys2Proof.Proofs

namespace Sys2Proof.Machine

open Sys2Proof.Safety

/-! ## Machine arithmetic as the rules' integer arithmetic (R11, R12, R108, R109) -/

theorem toInt_add_eq_add {n : Nat} (hn : 0 < n) (x y : BitVec n) : (x + y).toInt = add n x.toInt y.toInt := by
  rw [add, wrap_eq_bmod hn, BitVec.toInt_add]

theorem toInt_sub_eq_sub {n : Nat} (hn : 0 < n) (x y : BitVec n) : (x - y).toInt = sub n x.toInt y.toInt := by
  rw [sub, wrap_eq_bmod hn, BitVec.toInt_sub]

theorem toInt_mul_eq_mul {n : Nat} (hn : 0 < n) (x y : BitVec n) : (x * y).toInt = mul n x.toInt y.toInt := by
  rw [mul, wrap_eq_bmod hn, BitVec.toInt_mul]

theorem toInt_sdiv_eq_quo {n : Nat} (hn : 0 < n) (x y : BitVec n) :
    (x.sdiv y).toInt = quo n x.toInt y.toInt := by
  rw [quo, wrap_eq_bmod hn, BitVec.toInt_sdiv]

theorem toInt_shiftLeft_eq_shl {n : Nat} (hn : 0 < n) (x : BitVec n) (k : Nat) :
    (x <<< k).toInt = shl n x.toInt k := by
  rw [shl, wrap_eq_bmod hn, BitVec.toInt_shiftLeft, BitVec.toInt_eq_toNat_bmod, Int.bmod_mul_bmod, Nat.shiftLeft_eq]
  norm_cast

theorem toInt_sshiftRight_eq_asr {n : Nat} (x : BitVec n) (k : Nat) :
    (x.sshiftRight k).toInt = asr x.toInt k := by
  rw [asr, BitVec.toInt_sshiftRight, Int.shiftRight_eq_div_pow]
  norm_cast

/-- An unsigned operand enters a wider formula with its unsigned value (R109). -/
theorem toInt_zeroExtend_of_lt {m n : Nat} (h : m < n) (x : BitVec m) : (x.zeroExtend n).toInt = x.toNat := by
  rw [BitVec.zeroExtend, ← BitVec.setWidth'_eq h.le, BitVec.toInt_setWidth'_of_lt h]

/-- `trunc_u32` (R115) of a 64-bit value is the word of its integer value. -/
theorem truncate_eq_ofInt_toInt {m n : Nat} (h : n ≤ m) (x : BitVec m) :
    x.truncate n = BitVec.ofInt n x.toInt := by
  apply BitVec.eq_of_toInt_eq
  rw [BitVec.toInt_ofInt, BitVec.truncate, BitVec.toInt_setWidth, x.toInt_eq_toNat_bmod,
    Int.bmod_bmod_of_dvd (Nat.pow_dvd_pow 2 h)]

/-- R108: the value of each operation at width `n` is the rule's operation on the values of its operands. -/
theorem toInt_operations {n : Nat} (hn : 0 < n) :
    (∀ x y : BitVec n, (x + y).toInt = add n x.toInt y.toInt) ∧
    (∀ x y : BitVec n, (x - y).toInt = sub n x.toInt y.toInt) ∧
    (∀ x y : BitVec n, (x * y).toInt = mul n x.toInt y.toInt) ∧
    (∀ x y : BitVec n, (x.sdiv y).toInt = quo n x.toInt y.toInt) ∧
    (∀ (x : BitVec n) (k : Nat), (x <<< k).toInt = shl n x.toInt k) ∧
    (∀ (x : BitVec n) (k : Nat), (x.sshiftRight k).toInt = asr x.toInt k) :=
  ⟨toInt_add_eq_add hn, toInt_sub_eq_sub hn, toInt_mul_eq_mul hn, toInt_sdiv_eq_quo hn,
    toInt_shiftLeft_eq_shl hn, toInt_sshiftRight_eq_asr⟩

/-- R109: the value with which a narrower operand enters a formula of width `n`. -/
theorem toInt_operand {m n : Nat} (h : m < n) (x : BitVec m) :
    (x.zeroExtend n).toInt = x.toNat ∧ (x.signExtend n).toInt = x.toInt :=
  ⟨toInt_zeroExtend_of_lt h x, BitVec.toInt_signExtend_of_le h.le⟩

/-! ## The pressure formula (R113, R114) -/

theorem toInt_pressDenominator (tf : Word) (c : Calib) :
    (pressDenominator tf c).toInt =
      pressDenominatorRule tf.toInt c.digP1.toNat c.digP2.toInt c.digP3.toInt := by
  simp only [pressDenominator, pressDenominatorRule, toInt_operations, toInt_operand, Nat.reduceLT,
    BitVec.reduceToInt, -BitVec.reduceShiftLeft, -BitVec.reduceHShiftLeft]

/-- The denominator is a multiple of `dig_P1` (R114). -/
theorem pressDenominator_of_digP1_zero {c : Calib} (h : c.digP1 = 0) (tf : Word) : pressDenominator tf c = 0 := by
  simp [pressDenominator, h]

theorem pressDenominator_congr {c c' : Calib} (h1 : c.digP1 = c'.digP1) (h2 : c.digP2 = c'.digP2)
    (h3 : c.digP3 = c'.digP3) (tf : Word) : pressDenominator tf c = pressDenominator tf c' := by
  simp only [pressDenominator, h1, h2, h3]

/-- The rule takes the guard when the machine's denominator is 0, and else gives the machine's 64-bit p. -/
theorem pressRule_eq (adc : BitVec 20) (tf : Word) (c : Calib) :
    pressRule adc.toNat tf.toInt c.digP1.toNat c.digP2.toInt c.digP3.toInt c.digP4.toInt c.digP5.toInt
        c.digP6.toInt c.digP7.toInt c.digP8.toInt c.digP9.toInt =
      if pressDenominator tf c = 0 then none
      else some (pressQuotient adc (pressDenominator tf c) (pressOffset tf c) c).toInt := by
  have hguard : pressDenominator tf c = 0 ↔ (pressDenominator tf c).toInt = 0 := BitVec.toInt_inj.symm
  simp only [hguard, pressRule, pressQuotient, pressOffset, ← toInt_pressDenominator, toInt_operations,
    toInt_operand, Nat.reduceLT, BitVec.reduceToInt]

theorem compP_of_guard {tf : Word} {c : Calib} (h : pressDenominator tf c = 0) (adc : BitVec 20) :
    compP adc tf c = (0, true) :=
  if_pos h

theorem compP_of_no_guard {tf : Word} {c : Calib} (h : pressDenominator tf c ≠ 0) (adc : BitVec 20) :
    compP adc tf c =
      (BitVec.ofInt 32 (pressQuotient adc (pressDenominator tf c) (pressOffset tf c) c).toInt, false) := by
  rw [← truncate_eq_ofInt_toInt (by decide)]
  exact if_neg h

theorem compP_guard (adc : BitVec 20) (tf : Word) (c : Calib) :
    (compP adc tf c).2 = decide (pressDenominator tf c = 0) := by
  by_cases h : pressDenominator tf c = 0
  · rw [compP_of_guard h, decide_eq_true h]
  · rw [compP_of_no_guard h, decide_eq_false h]

/-! ## The humidity formula and its clamp (R116, R117) -/

/-- A value that is not negative compares with the bound as its bit pattern does. -/
theorem toInt_humClamp (v : Word) :
    (humClamp v).toInt =
      let u := if v.toInt < 0 then 0 else v.toInt
      if u > 419430400 then 419430400 else u := by
  have hmsb : v.msb = true ↔ v.toInt < 0 := by rw [BitVec.msb_eq_toInt, decide_eq_true_iff]
  by_cases hneg : v.toInt < 0
  · simp [humClamp, hmsb, hneg]
  · have hv : v.toInt = v.toNat :=
      BitVec.toInt_eq_toNat_of_msb (Bool.eq_false_iff.mpr (mt hmsb.mp hneg))
    have hbound : 419430400#32 < v ↔ 419430400 < v.toInt := by
      rw [hv, BitVec.lt_def]
      norm_cast
    simp only [humClamp, hmsb, hneg, if_false, hbound, gt_iff_lt]
    split <;> rfl

theorem humClamp_range (v : Word) : 0 ≤ (humClamp v).toInt ∧ (humClamp v).toInt ≤ 419430400 := by
  rw [toInt_humClamp]
  dsimp only
  split_ifs <;> omega

/-- The machine writes the rule's constant summands first, which wrapping addition does not mind. -/
theorem toInt_compH (adc : BitVec 16) (tf : Word) (c : Calib) :
    (compH adc tf c).toInt =
      humRule adc.toNat tf.toInt c.digH1.toNat c.digH2.toInt c.digH3.toNat c.digH4.toInt
        c.digH5.toInt c.digH6.toInt := by
  simp only [compH, humRule, toInt_humClamp, humRaw, BitVec.add_comm 16384#32, BitVec.add_comm 8192#32,
    BitVec.add_comm 2097152#32, BitVec.add_comm 32768#32, toInt_operations, toInt_operand, Nat.reduceLT,
    BitVec.reduceToInt]

theorem compH_range (adc : BitVec 16) (tf : Word) (c : Calib) :
    0 ≤ (compH adc tf c).toInt ∧ (compH adc tf c).toInt ≤ 102400 := by
  have hclamp := humClamp_range (humRaw adc tf c)
  rw [compH, toInt_sshiftRight_eq_asr, asr]
  omega

theorem percentRH_range {r : Word} (hlo : 0 ≤ r.toInt) (hhi : r.toInt ≤ 102400) :
    0 ≤ percentRH r ∧ percentRH r ≤ 100 := by
  have hnat : r.toNat ≤ 102400 := by
    rw [BitVec.toInt_eq_toNat_cond] at hlo hhi
    omega
  have hrat : (r.toNat : Rat) ≤ 102400 := by exact_mod_cast hnat
  rw [percentRH]
  exact ⟨by positivity, by linarith⟩

/-! ## A reserved argument bit of a command without argument (R88) -/

/-- A word whose opcode takes no argument is illegal when its argument byte is not 0. -/
theorem decode_of_reserved_argument {w : Word} {i : Instr}
    (hop : opcodeMap (opField w) (argField w) = some (0x00#8, i)) (harg : argField w ≠ 0)
    (hz : zeroField w = 0) : decode w = .error .argument := by
  have hlegal : argLegal 0x00#8 (argField w) = false := by
    rw [← Bool.not_eq_true, argLegal_zero_iff]
    exact harg
  simp [decode, hz, hop, hlegal]

/-! ## The first step of a command that needs a session (R180) -/

theorem operand20Legal_iff {w : Word} : operand20Legal w = true ↔ w.extractLsb' 20 12 = 0 := beq_iff_eq

theorem operand16Legal_iff {w : Word} : operand16Legal w = true ↔ w.extractLsb' 16 16 = 0 := beq_iff_eq

theorem operand20Legal_eq_false {w : Word} (h : w.extractLsb' 20 12 ≠ 0) : operand20Legal w = false :=
  beq_false_of_ne h

theorem operand16Legal_eq_false {w : Word} (h : w.extractLsb' 16 16 ≠ 0) : operand16Legal w = false :=
  beq_false_of_ne h

section
variable {legal : Job → Bool} {needsTfine : Bool} {start : Job → State}
  {resume : Job → Pos → Answer → Option State} {s : State} {job : Job}

theorem checkedStep_illegal (hs : s.seq = .start job) (hl : legal job = false) :
    blockStep (fun job => firstError (legal job) true needsTfine s) start resume s =
      .next { s with seq := .idle, status := { s.status with err := 4, busy := false } } :=
  blockStep_start_error (e := .illegalCommand) hs (by simp [firstError, hl])

theorem checkedStep_notInitialized (hs : s.seq = .start job) (hl : legal job = true)
    (hi : s.status.init = false) :
    blockStep (fun job => firstError (legal job) true needsTfine s) start resume s =
      .next { s with seq := .idle, status := { s.status with err := 2, busy := false } } :=
  blockStep_start_error (e := .notInitialized) hs (by simp [firstError, hl, hi])

theorem checkedStep_tfineInvalid (hs : s.seq = .start job) (hl : legal job = true)
    (hi : s.status.init = true) (ht : s.status.tfv = false) :
    blockStep (fun job => firstError (legal job) true true s) start resume s =
      .next { s with seq := .idle, status := { s.status with err := 5, busy := false } } :=
  blockStep_start_error (e := .tfineInvalid) hs (by simp [firstError, hl, hi, ht])

theorem checkedStep_passes (hs : s.seq = .start job) (hl : legal job = true)
    (hi : s.status.init = true) (ht : needsTfine = true → s.status.tfv = true) :
    blockStep (fun job => firstError (legal job) true needsTfine s) start resume s = .next (start job) :=
  blockStep_start hs (firstError_none.mpr ⟨hl, fun _ => hi, ht⟩)

end

/-- The body of COMP_T writes `RESULT`, `TFINE` and `TFV` and ends with no error (R122). -/
theorem runCompT_eq (adc : BitVec 20) (s : State) :
    runCompT adc s = { s with
      result := (compT adc s.calib).1
      tfine := (compT adc s.calib).2
      status := { s.status with tfv := true, err := 0, busy := false }
      seq := .idle } := by
  simp only [runCompT, complete, storeResult, storeTFine, Status.completed]

end Sys2Proof.Machine

namespace Sys2Proof.Proofs

open Sys2Proof.Machine Sys2Proof.Safety

/-- Settles O15: both sides are the same operations, so the value of each is computed operation by operation. -/
theorem temperatureFollowsTheFormula : Obligations.TemperatureFollowsTheFormula := by
  intro adc c
  simp only [compT, tempRule, toInt_operations, toInt_operand, Nat.reduceLT, BitVec.reduceToInt]

/-- Settles O16: rule and machine split on the same denominator, a multiple of `dig_P1` in which no coefficient but
`dig_P1` to `dig_P3` occurs. -/
theorem pressureFollowsTheFormula : Obligations.PressureFollowsTheFormula := by
  refine ⟨fun adc tf c => ?_, fun adc tf c h => ?_, fun adc adc' tf c c' h1 h2 h3 => ?_⟩
  · rw [pressRule_eq]
    by_cases h : pressDenominator tf c = 0
    · rw [if_pos h]
      exact compP_of_guard h adc
    · rw [if_neg h]
      exact compP_of_no_guard h adc
  · exact compP_of_guard (pressDenominator_of_digP1_zero h tf) adc
  · rw [compP_guard, compP_guard, pressDenominator_congr h1 h2 h3]

/-- Settles O17: the formula operation by operation, and the range from the clamp. -/
theorem humidityFollowsTheFormula : Obligations.HumidityFollowsTheFormula := by
  intro adc tf c
  obtain ⟨hlo, hhi⟩ := compH_range adc tf c
  exact ⟨toInt_compH adc tf c, hlo, hhi, percentRH_range hlo hhi⟩

/-- Settles O18: the clauses of the first step are the checks of a session command on `ARG[31:20]`. -/
theorem compTWritesTemperatureAndTFine : Obligations.CompTWritesTemperatureAndTFine := by
  refine ⟨rfl, fun w hop harg hz => ?_, fun s job hs => ?_, by decide⟩
  · exact decode_of_reserved_argument (i := .compT) (by rw [opField, hop]; rfl) harg hz
  · simp only [exec, execCompT]
    refine ⟨fun hbad => ?_, fun hok hi => ?_, fun hok hi => ?_⟩
    · exact checkedStep_illegal hs (operand20Legal_eq_false hbad)
    · exact checkedStep_notInitialized hs (operand20Legal_iff.mpr hok) hi
    · rw [← operand20, ← runCompT_eq]
      exact checkedStep_passes hs (operand20Legal_iff.mpr hok) hi nofun

/-- Settles O19: as O18, with the check of `TFV` after the one of `INIT`. -/
theorem compPWritesPressureAndGuard : Obligations.CompPWritesPressureAndGuard := by
  refine ⟨rfl, fun w hop harg hz => ?_, fun s job hs => ?_, by decide⟩
  · exact decode_of_reserved_argument (i := .compP) (by rw [opField, hop]; rfl) harg hz
  · simp only [exec, execCompP]
    refine ⟨fun hbad => ?_, fun hok hi => ?_, fun hok hi ht => ?_, fun hok hi ht => ?_⟩
    · exact checkedStep_illegal hs (operand20Legal_eq_false hbad)
    · exact checkedStep_notInitialized hs (operand20Legal_iff.mpr hok) hi
    · exact checkedStep_tfineInvalid hs (operand20Legal_iff.mpr hok) hi ht
    · exact checkedStep_passes hs (operand20Legal_iff.mpr hok) hi fun _ => ht

/-- Settles O20: as O19, for a 16-bit operand. -/
theorem compHWritesHumidity : Obligations.CompHWritesHumidity := by
  refine ⟨rfl, fun w hop harg hz => ?_, fun s job hs => ?_, by decide⟩
  · exact decode_of_reserved_argument (i := .compH) (by rw [opField, hop]; rfl) harg hz
  · simp only [exec, execCompH]
    refine ⟨fun hbad => ?_, fun hok hi => ?_, fun hok hi ht => ?_, fun hok hi ht => ?_⟩
    · exact checkedStep_illegal hs (operand16Legal_eq_false hbad)
    · exact checkedStep_notInitialized hs (operand16Legal_iff.mpr hok) hi
    · exact checkedStep_tfineInvalid hs (operand16Legal_iff.mpr hok) hi ht
    · exact checkedStep_passes hs (operand16Legal_iff.mpr hok) hi fun _ => ht

end Sys2Proof.Proofs

namespace Sys2Proof.Machine

open Sys2Proof.Safety

/-! ## The profile table (R145, R147) -/

/-- The numbers past the named rows select the default, Weather (R145). -/
theorem profileRow_of_four_le {q : BitVec 3} (h : 4 ≤ q.toNat) : profileRow q = profileRow 0 := by
  unfold profileRow
  split
  · omega
  · omega
  · omega
  · rfl

/-! ## Runs without outside moves -/

theorem run_succ {s t : State} (h : step s = .next t) (n : Nat) :
    Sys2Proof.core.run (n + 1) s = Sys2Proof.core.run n t := by
  have hcore : Sys2Proof.core.step s = .next t := h
  simp only [Host.Core.run, hcore]

/-- The step after a transaction is issued answers it (R16). -/
theorem run_issue {s : State} (hi : s.inputs = []) (job : Job) (q : Request) (pos : Pos) (n : Nat) :
    Sys2Proof.core.run (n + 1) (issue job q pos s) = Sys2Proof.core.run n (transportStep job q pos s) :=
  run_succ (step_answer (s := issue job q pos s) (.inl ⟨hi, rfl⟩) rfl) n

/-- The running command takes a step of its script (R16). -/
theorem run_exec {s t : State} {job : Job} {i : Instr} (hi : s.inputs = [])
    (hs : s.seq = .start job ∨ ∃ pos ans, s.seq = .ready job pos ans) (hd : decode job.word = .ok i)
    (he : exec i s = .next t) (n : Nat) : Sys2Proof.core.run (n + 1) s = Sys2Proof.core.run n t :=
  run_succ (by rw [step_blockMove (.inl ⟨hi, rfl⟩) hs, blockMove, hd]; exact he) n

/-! ## One acknowledged field update (R134) -/

/-- The bytes a reply gives of its own. -/
def Reply.bytes : Reply → List Byte
  | .ok bytes => bytes
  | .err _ => []

/-- The byte an `Ok` answer to a single read of `a` brings: the reply's own, else the sensor's register (R63). -/
def answeredByte (a : Byte) (s : State) : Byte := (nextReply s).bytes.getD 0 (s.sensor.reg a)

theorem transportStep_read {s : State} {bytes : List Byte} (h : nextReply s = .ok bytes) (job : Job) (a : Byte)
    (pos : Pos) :
    transportStep job (.read a 1) pos s = { s with
      seq := .ready job pos (.ok [answeredByte a s])
      replies := s.replies.tail
      trace := s.trace ++ [⟨s.params.slaveAddr, .read a 1, .ok [answeredByte a s]⟩]
      freeCount := s.freeCount + freePerWrite } := by
  have haddr : burstAddr a 0 = a.toNat := burstAddr_of_lt a.isLt
  have hans : answerOf (.read a 1) (nextReply s) s.sensor = .ok [answeredByte a s] := by
    simp [answerOf, readBytes, answeredByte, h, Reply.bytes, Sensor.reg, haddr]
  simp only [transportStep, hans, sensorAfter]

theorem transportStep_write {s : State} {bytes : List Byte} (h : nextReply s = .ok bytes) (job : Job) (a v : Byte)
    (pos : Pos) :
    transportStep job (.write a v) pos s = { s with
      seq := .ready job pos (.ok [])
      sensor := s.sensor.write s.freeCount a v
      replies := s.replies.tail
      trace := s.trace ++ [⟨s.params.slaveAddr, .write a v, .ok []⟩]
      freeCount := s.freeCount + freePerWrite } := by
  simp only [transportStep, h, answerOf, sensorAfter]

/-- What an acknowledged `UpdateField` leaves of the state behind the sequencer: two transactions, the second of
which writes the merged byte (R134). -/
def fieldUpdated (f : Field) (s : State) : State :=
  let r := answeredByte f.addr s
  { s with
    sensor := s.sensor.write (s.freeCount + freePerWrite) f.addr (f.merge r)
    replies := s.replies.tail.tail
    trace := s.trace ++ [⟨s.params.slaveAddr, .read f.addr 1, .ok [r]⟩,
      ⟨s.params.slaveAddr, .write f.addr (f.merge r), .ok []⟩]
    freeCount := s.freeCount + freePerWrite + freePerWrite }

/-- The four machine steps of an acknowledged `UpdateField`, for a command whose script has its read at `rpos`, its
write at `wpos`, and goes on with `after`. -/
theorem run_fieldUpdate {i : Instr} {f : Field} {rpos wpos : Pos} {job : Job} {after : State → State} {s : State}
    {b b' : List Byte} (hd : decode job.word = .ok i)
    (hread : ∀ (u : State) (r : Byte), u.seq = .ready job rpos (.ok [r]) →
      exec i u = .next (writeField f r wpos job u))
    (hwrite : ∀ u : State, u.seq = .ready job wpos (.ok []) → exec i u = .next (after u))
    (hi : s.inputs = []) (hr : s.replies.headD (.ok []) = .ok b)
    (hw : s.replies.tail.headD (.ok []) = .ok b') (n : Nat) :
    Sys2Proof.core.run (n + 4) (startField f rpos job s) =
      Sys2Proof.core.run n (after { fieldUpdated f s with seq := .ready job wpos (.ok []) }) := by
  let r := answeredByte f.addr s
  let s₁ := transportStep job (.read f.addr 1) rpos s
  let s₂ := transportStep job (.write f.addr (f.merge r)) wpos s₁
  have h₁ : s₁ = _ := transportStep_read hr job f.addr rpos
  have h₂ : s₂ = _ := transportStep_write (s := s₁) hw job f.addr (f.merge r) wpos
  have hs₁ : s₁.seq = .ready job rpos (.ok [r]) := by rw [h₁]
  have hs₂ : s₂.seq = .ready job wpos (.ok []) := by rw [h₂]
  calc Sys2Proof.core.run (n + 4) (startField f rpos job s)
    _ = Sys2Proof.core.run (n + 3) s₁ := run_issue hi _ _ _ _
    _ = Sys2Proof.core.run (n + 2) (writeField f r wpos job s₁) :=
      run_exec (s := s₁) hi (.inr ⟨_, _, hs₁⟩) hd (hread _ _ hs₁) _
    _ = Sys2Proof.core.run (n + 1) s₂ := run_issue (s := s₁) hi _ _ _ _
    _ = Sys2Proof.core.run n (after s₂) := run_exec (s := s₂) hi (.inr ⟨_, _, hs₂⟩) hd (hwrite _ hs₂) _
    _ = _ := by
      rw [h₂, h₁]
      simp [fieldUpdated, r]

/-! ## A profile application (R142, R143) -/

/-- APPLY_PROFILE and INIT share the profile's part of the script (R142, R153). -/
theorem exec_of_resumeProfile {i : Instr} {p : Profile} (hp : profileOf i = some p) {s t : State} {job : Job}
    {pos : Pos} {ans : Answer} (hs : s.seq = .ready job pos ans) (hr : resumeProfile p s job pos ans = some t) :
    exec i s = .next t := by
  cases i with
  | applyProfile arg =>
    cases hp
    exact blockStep_ready hs hr
  | init =>
    cases hp
    have hinit : resumeInit s job pos ans = some t := by
      cases pos with
      | profRead k => exact hr
      | profWrite k => exact hr
      | _ => cases hr
    exact (execInit.eq_def s).trans (blockStep_ready hs hinit)
  | _ => cases hp

/-- No transaction to come is answered with an error (R63). -/
def Acknowledged (replies : List Reply) : Prop := ∀ r ∈ replies, ∃ bytes, r = .ok bytes

theorem Acknowledged.head {replies : List Reply} (h : Acknowledged replies) :
    ∃ bytes, replies.headD (.ok []) = .ok bytes := by
  cases replies with
  | nil => exact ⟨[], rfl⟩
  | cons r rest => exact h r List.mem_cons_self

theorem Acknowledged.tail {replies : List Reply} (h : Acknowledged replies) : Acknowledged replies.tail :=
  fun r hr => h r (List.mem_of_mem_tail hr)

/-- One acknowledged profile step. -/
theorem run_profileStep {i : Instr} {p : Profile} (hp : profileOf i = some p) {job : Job}
    (hd : decode job.word = .ok i) {s : State} (hi : s.inputs = []) (ha : Acknowledged s.replies)
    (k : ProfileStep) (n : Nat) :
    Sys2Proof.core.run (n + 4) (startProfileStep p k job s) =
      Sys2Proof.core.run n (afterProfileStep p k job (fieldUpdated (p.field k) s)) := by
  obtain ⟨b, hr⟩ := ha.head
  obtain ⟨b', hw⟩ := ha.tail.head
  refine (run_fieldUpdate (wpos := .profWrite k) (after := afterProfileStep p k job) hd
    (fun u r hu => exec_of_resumeProfile hp hu rfl) (fun u hu => exec_of_resumeProfile hp hu rfl) hi hr hw n).trans ?_
  -- What comes after step `k`, its next step or the end, sets the sequencer.
  cases k <;> rfl

/-- The profile steps from `k` to the last (R143). -/
inductive StepsFrom : ProfileStep → List ProfileStep → Prop
  | last {k : ProfileStep} (h : k.next = none) : StepsFrom k [k]
  | more {k k' : ProfileStep} {ks : List ProfileStep} (h : k.next = some k') (rest : StepsFrom k' ks) :
    StepsFrom k (k :: ks)

/-- The state behind the sequencer after acknowledged profile steps. -/
def profileUpdated (p : Profile) (ks : List ProfileStep) (s : State) : State :=
  ks.foldl (fun u k => fieldUpdated (p.field k) u) s

theorem run_profileSteps {i : Instr} {p : Profile} (hp : profileOf i = some p) {job : Job}
    (hd : decode job.word = .ok i) {k : ProfileStep} {ks : List ProfileStep} (hk : StepsFrom k ks) {s : State}
    (hi : s.inputs = []) (ha : Acknowledged s.replies) :
    Sys2Proof.core.run (4 * ks.length) (startProfileStep p k job s) =
      .next (complete (profileUpdated p ks s)) := by
  induction hk generalizing s with
  | last h =>
    refine (run_profileStep hp hd hi ha _ 0).trans ?_
    rw [afterProfileStep, h]
    rfl
  | @more k k' ks h rest ih =>
    rw [List.length_cons, Nat.mul_succ, run_profileStep hp hd hi ha, afterProfileStep, h]
    exact ih (s := fieldUpdated (p.field k) s) hi ha.tail.tail

/-- The six steps in R143's order. -/
def profileSteps : List ProfileStep := [.osrsT, .osrsP, .osrsH, .filter, .standby, .mode]

theorem stepsFrom_osrsT : StepsFrom .osrsT profileSteps :=
  .more rfl (.more rfl (.more rfl (.more rfl (.more rfl (.last rfl)))))

/-- APPLY_PROFILE from acceptance to its end, over a transport that acknowledges everything (R142, R143). -/
theorem run_applyProfile {s : State} {job : Job} {arg : Byte} (hi : s.inputs = []) (hs : s.seq = .start job)
    (hd : decode job.word = .ok (.applyProfile arg)) (hl : argLegal 0x07#8 arg = true)
    (hinit : s.status.init = true) (ha : Acknowledged s.replies) :
    Sys2Proof.core.run 25 s = .next (complete (profileUpdated (profileRow (code3 arg)) profileSteps s)) := by
  have hfirst : exec (.applyProfile arg) s = .next (startProfileStep (profileRow (code3 arg)) .osrsT job s) :=
    checkedStep_passes hs hl hinit nofun
  rw [run_exec hi (.inl hs) hd hfirst]
  exact run_profileSteps rfl hd stepsFrom_osrsT hi ha

/-! ## The transactions of a profile over the sensor model (R148) -/

/-- The completed transactions, by request and answer (R75). -/
def busRecord (s : State) : List (Request × Answer) := s.trace.map fun e => (e.req, e.ans)

/-- The transactions of profile steps that the sensor itself answers: each step reads what the steps before it left
in its register. `free` counts the free values drawn so far. -/
def profileTransactions (p : Profile) : List ProfileStep → Nat → Sensor → List (Request × Answer)
  | [], _, _ => []
  | k :: ks, free, x =>
    let f := p.field k
    let r := x.reg f.addr
    (.read f.addr 1, .ok [r]) :: (.write f.addr (f.merge r), .ok []) ::
      profileTransactions p ks (free + freePerWrite + freePerWrite)
        (x.write (free + freePerWrite) f.addr (f.merge r))

theorem busRecord_profileUpdated (p : Profile) (ks : List ProfileStep) {s : State} (hr : s.replies = []) :
    busRecord (profileUpdated p ks s) = busRecord s ++ profileTransactions p ks s.freeCount s.sensor := by
  induction ks generalizing s with
  | nil => simp [profileUpdated, profileTransactions]
  | cons k ks ih =>
    have hbyte : answeredByte (p.field k).addr s = s.sensor.reg (p.field k).addr := by
      simp [answeredByte, nextReply, hr, Reply.bytes]
    have hrest := ih (s := fieldUpdated (p.field k) s) (by simp [fieldUpdated, hr])
    simp only [profileUpdated, List.foldl_cons] at hrest ⊢
    rw [hrest]
    simp [fieldUpdated, busRecord, profileTransactions, hbyte]

/-! ## Profile numbers as argument bytes (R83) -/

theorem argLegal_profile (q : BitVec 3) : argLegal 0x07#8 (q.zeroExtend 8) = true := by
  revert q
  decide

theorem code3_zeroExtend (q : BitVec 3) : code3 (q.zeroExtend 8) = q := by
  revert q
  decide

end Sys2Proof.Machine

namespace Sys2Proof.Proofs

open Sys2Proof.Machine Sys2Proof.Safety

/-- Settles O27: the four rows as printed, and `profileRow_of_four_le` for the default. -/
theorem profileTableRows : Obligations.ProfileTableRows :=
  ⟨rfl, rfl, rfl, rfl, fun _ => profileRow_of_four_le⟩

/-- Settles O30: `run_applyProfile` gives the end state of the run and `busRecord_profileUpdated` its record; the
reads and writes are then computed over the registers at 0x00, one row of the profile table at a time. -/
theorem profileTransactionsFromZero : Obligations.ProfileTransactionsFromZero := by
  unfold Obligations.ProfileTransactionsFromZero
  intro start bus makes
  have hmakes (q : BitVec 3) (l : List (Byte × Byte × Byte))
      (h : profileTransactions (profileRow q) profileSteps 0 Sensor.reset = bus l) : makes q l := by
    have hrun := run_applyProfile (s := start q) rfl rfl (decode_encode (argLegal_profile q)) (argLegal_profile q)
      rfl nofun
    rw [code3_zeroExtend] at hrun
    exact ⟨_, hrun, (busRecord_profileUpdated _ _ rfl).trans h, rfl, rfl⟩
  refine ⟨fun q hq => hmakes q _ ?_, hmakes 1 _ (by decide), hmakes 2 _ (by decide), hmakes 3 _ (by decide)⟩
  have hrow : profileRow q = profileRow 0 := by
    rcases hq with rfl | hq
    · rfl
    · exact profileRow_of_four_le hq
  rw [hrow]
  decide

end Sys2Proof.Proofs

namespace Sys2Proof.Machine

open Sys2Proof.Safety

/-! ## INIT up to the calibration (R152 to R155) -/

/-- INIT has no precondition: its first step always begins the script (R153). -/
theorem exec_init_start {s : State} {job : Job} (hs : s.seq = .start job) :
    exec .init s = .next (startInit job s) :=
  (execInit.eq_def s).trans (blockStep_start hs (firstError_none.mpr ⟨rfl, nofun, nofun⟩))

theorem exec_init_ready {s t : State} {job : Job} {pos : Pos} {ans : Answer} (hs : s.seq = .ready job pos ans)
    (hr : resumeInit s job pos ans = some t) : exec .init s = .next t :=
  (execInit.eq_def s).trans (blockStep_ready hs hr)

/-- A failed calibration burst zeroes the buffer and ends INIT (R154). -/
theorem exec_init_calibrationFailed {s : State} {job : Job} {c : Nat}
    (hs : s.seq = .ready job .calA (.err c) ∨ s.seq = .ready job .calB (.err c)) :
    exec .init s = .next (raise (.transport c) (zeroScratch s)) := by
  rcases hs with hs | hs <;> exact exec_init_ready hs rfl

theorem checkId_of_ne {id : Byte} {s : State} (h : id ≠ s.params.chipId) (job : Job) :
    checkId id job s = raise .notInitialized s :=
  if_neg h

theorem checkId_of_eq {id : Byte} {s : State} (h : id = s.params.chipId) (job : Job) :
    checkId id job s = issue job (.read regCalA 26) .calA s :=
  if_pos h

/-- An answered position tells whether the session is open and how many bytes it brought. -/
theorem consistent_ready {s : State} {job : Job} {pos : Pos} {ans : Answer} {i : Instr} (h : Consistent s)
    (hs : s.seq = .ready job pos ans) (hd : decode job.word = .ok i) :
    s.status.init = initAt i pos ∧ ∀ bytes, ans = .ok bytes → bytes.length = bytesAt pos := by
  have hseq := h.seqOk
  simp only [SeqOk, hs, InScript, hd] at hseq
  obtain ⟨⟨-, _, hi, -, hinit⟩, -, hlength⟩ := hseq
  cases hi
  exact ⟨hinit, hlength⟩

/-- The first bytes of the image are those of the block written at its start. -/
theorem byteAt_putBytes_zero (buf : List Byte) {src : List Byte} {i : Nat} (h : i < src.length) :
    byteAt (putBytes buf 0 src) i = byteAt src i := by
  simp [byteAt, putBytes, List.getElem?_append_left h]

/-- `DecodeA` reads block A only (R103). -/
theorem decodeA_putBytes_zero (buf : List Byte) {a : List Byte} (ha : a.length = 26) (c : Calib) :
    decodeA (putBytes buf 0 a) c = decodeA a c := by
  have hbyte (i : Nat) (hi : i < 26) : byteAt (putBytes buf 0 a) i = byteAt a i :=
    byteAt_putBytes_zero buf (ha ▸ hi)
  simp [decodeA, le16, hbyte]

/-- A read that the transport answers with an error leaves the sensor alone (R65, R72). -/
theorem transportStep_read_error {s : State} {c : Nat} (h : nextReply s = .err c) (job : Job) (a : Byte) (n : Nat)
    (pos : Pos) :
    transportStep job (.read a n) pos s = { s with
      seq := .ready job pos (.err c)
      replies := s.replies.tail
      trace := s.trace ++ [⟨s.params.slaveAddr, .read a n, .err c⟩]
      freeCount := s.freeCount + freePerWrite } := by
  simp only [transportStep, h, answerOf, sensorAfter]

/-- INIT from block A's success to a failure of block B's burst (R155). -/
theorem run_init_blockBFailed {s : State} {job : Job} {a : List Byte} {c : Nat} (hi : s.inputs = [])
    (hd : decode job.word = .ok .init) (hs : s.seq = .ready job .calA (.ok a)) (hr : nextReply s = .err c) :
    ∃ u, Sys2Proof.core.run 3 s = .next (raise (.transport c) (zeroScratch u)) ∧ u.status = s.status ∧
      u.calib = decodeA (putBytes s.scratch 0 a) s.calib := by
  let s₁ := takeBlockA a job s
  let s₂ := transportStep { job with burst := a } (.read regCalB 7) .calB s₁
  have h₂ : s₂ = _ := transportStep_read_error (s := s₁) hr _ _ _ _
  have hs₂ : s₂.seq = .ready { job with burst := a } .calB (.err c) := by rw [h₂]
  refine ⟨s₂, ?_, by rw [h₂]; rfl, by rw [h₂]; rfl⟩
  calc Sys2Proof.core.run 3 s
    _ = Sys2Proof.core.run 2 s₁ := run_exec hi (.inr ⟨_, _, hs⟩) hd (exec_init_ready hs rfl) _
    _ = Sys2Proof.core.run 1 s₂ := run_issue (s := s₁) hi _ _ _ _
    _ = _ := run_exec (s := s₂) hi (.inr ⟨_, _, hs₂⟩) hd (exec_init_calibrationFailed (.inr hs₂)) 0

/-! ## The head of the measurement commands (R151, R156, R157) -/

/-- The three commands share the first step. -/
theorem exec_measures {i : Instr} (hi : Measures i) (s : State) : ∃ resume, exec i s = measureStep resume s := by
  rcases hi with rfl | rfl | rfl <;> exact ⟨_, rfl⟩

/-- The positions that `MeasurePrep` answers at (R156 to R158). -/
theorem resumePrep_pos {s t : State} {job : Job} {pos : Pos} {ans : Answer}
    (h : resumePrep s job pos ans = some t) : pos = .mode ∨ pos = .forced ∨ pos = .poll := by
  cases pos with
  | mode | forced | poll => simp
  | _ => cases h

/-- At the positions of `MeasurePrep` the three commands take its steps. -/
theorem exec_of_resumePrep {i : Instr} (hi : Measures i) {s t : State} {job : Job} {pos : Pos} {ans : Answer}
    (hs : s.seq = .ready job pos ans) (hr : resumePrep s job pos ans = some t) : exec i s = .next t := by
  rcases resumePrep_pos hr with rfl | rfl | rfl <;> rcases hi with rfl | rfl | rfl <;> exact blockStep_ready hs hr

/-- Mode code 11 in the low bits of a `ctrl_meas` byte is Normal (R48, R95). -/
theorem isNormal_modeBits_iff {m : Byte} : isNormal (modeBits m) = true ↔ m.toNat % 4 = 3 := by
  rw [isNormal, beq_iff_eq, ← BitVec.toNat_inj]
  simp [modeBits]

theorem forceMode_of_normal {m : Byte} (h : m.toNat % 4 = 3) (job : Job) (s : State) :
    forceMode m job s = startPoll { job with m := m } s :=
  if_pos (isNormal_modeBits_iff.mpr h)

theorem forceMode_of_not_normal {m : Byte} (h : m.toNat % 4 ≠ 3) (job : Job) (s : State) :
    forceMode m job s = issue { job with m := m } (.write regCtrlMeas (forcedByte m)) .forced s :=
  if_neg (mt isNormal_modeBits_iff.mp h)

/-- The poll starts at count 0, below any bound it may have (R9, R158). -/
theorem startPoll_eq {s : State} (h : s.params.pollLimit ≠ some 0) (job : Job) :
    startPoll job s = issue { job with pollCount := 0 } (.read regStatus 1) .poll s :=
  pollLoop_below_limit h

end Sys2Proof.Machine

namespace Sys2Proof.Proofs

open Sys2Proof.Machine Sys2Proof.Safety

/-- Settles O34: the invariant says that the session is closed while the calibration is read, and the failure of a
burst opens nothing and decodes nothing. -/
theorem failedCalibrationLeavesPartialFields : Obligations.FailedCalibrationLeavesPartialFields := by
  refine ⟨fun s t u job c hc hd hu hs ht => ?_, fun s job a c rest hc hd hi hs hr => ?_⟩
  · obtain ⟨hseq, hmoved⟩ := movesFrom_seq hu
    obtain ⟨pos, hready, hclosed⟩ : ∃ pos, s.seq = .ready job pos (.err c) ∧ initAt .init pos = false := by
      rcases hs with hs | hs <;> exact ⟨_, hs, rfl⟩
    have hinit : s.status.init = false := (consistent_ready hc hready hd).1.trans hclosed
    have hstep : step s = .next (raise (.transport c) (zeroScratch u)) := by
      rw [step_blockMove hu (.inr ⟨pos, _, hready⟩), blockMove, hd]
      exact exec_init_calibrationFailed (hseq ▸ hs)
    cases hstep.symm.trans ht
    rw [hmoved]
    exact ⟨rfl, hc.calvInit.trans hinit, hinit, rfl⟩
  · obtain ⟨hinit, hlength⟩ := consistent_ready hc hs hd
    have hreply : nextReply s = .err c := by simp [nextReply, hr]
    obtain ⟨u, hrun, hstatus, hcalib⟩ := run_init_blockBFailed hi hd hs hreply
    rw [decodeA_putBytes_zero s.scratch (hlength a rfl)] at hcalib
    refine ⟨_, hrun, rfl, rfl, ?_, ?_, hcalib⟩
    · exact (congrArg Status.calv hstatus).trans (hc.calvInit.trans hinit)
    · exact (congrArg Status.init hstatus).trans hinit

/-- Settles O36: the first step is that of every command that needs a session, and the later ones are
`MeasurePrep`'s, which the three commands share. -/
theorem measurementForcesTheMode : Obligations.MeasurementForcesTheMode := by
  intro i hi s job hlimit
  obtain ⟨resume, hexec⟩ := exec_measures hi s
  refine ⟨fun hs hinit => ?_, fun hs hinit => ?_, fun m hs hm => ?_, fun m hs hm => ?_, fun hs => ?_,
    fun c hs => ?_⟩
  · exact hexec.trans (checkedStep_notInitialized (legal := fun _ => true) hs rfl hinit)
  · exact hexec.trans (checkedStep_passes (legal := fun _ => true) hs rfl hinit nofun)
  · exact exec_of_resumePrep hi hs (congrArg some (forceMode_of_not_normal hm job s))
  · exact exec_of_resumePrep hi hs
      (congrArg some ((forceMode_of_normal hm job s).trans (startPoll_eq hlimit _)))
  · exact exec_of_resumePrep hi hs (congrArg some (startPoll_eq hlimit job))
  · rcases hs with hs | hs <;> exact exec_of_resumePrep hi hs rfl

/-- Settles O32: the first step reads the identifier, and `checkId` compares it. -/
theorem initChecksTheChipIdentifier : Obligations.InitChecksTheChipIdentifier := by
  refine ⟨fun s job hs => ⟨_, exec_init_start hs⟩, fun s job id hs => ⟨fun hid => ?_, fun hid => ?_⟩⟩
  · exact exec_init_ready hs (congrArg some (checkId_of_ne hid job))
  · exact exec_init_ready hs (congrArg some (checkId_of_eq hid job))

end Sys2Proof.Proofs

namespace Sys2Proof.Machine

open Sys2Proof.Safety

/-! ## The checks of the first step, for every command (R83, R175, R179 to R181) -/

/-- No reserved bit of the argument byte is set, nor, for a compensation command, of the latched `ARG` (R83). -/
def commandLegal (i : Instr) (operand : Word) : Bool :=
  match i with
  | .compT | .compP => operand20Legal operand
  | .compH => operand16Legal operand
  | _ => i.WellFormed

/-- What `commandLegal` rejects (R179); a compensation command has no argument byte that could be ill-formed. -/
theorem commandLegal_eq_false_iff {i : Instr} {operand : Word} :
    commandLegal i operand = false ↔ i.WellFormed = false ∨
      ((i = .compT ∨ i = .compP) ∧ operand.extractLsb' 20 12 ≠ 0) ∨
        (i = .compH ∧ operand.extractLsb' 16 16 ≠ 0) := by
  cases i with
  | compT | compP | compH =>
    simp [commandLegal, operand20Legal, operand16Legal, Instr.WellFormed, Instr.argNamed, Instr.arg, argLegal]
  | _ => simp [commandLegal]

/-- The checks of a command's first step: only INIT needs no session (R175), and COMP_P and COMP_H need a valid
`TFINE` (R181). -/
def firstCheck (i : Instr) (s : State) (job : Job) : Option Error :=
  firstError (commandLegal i job.operand) (i != .init) (i == .compP || i == .compH) s

/-- Every command is a block step that makes its checks first; one that passes them asks for a transaction or is
done. -/
theorem exec_firstCheck (i : Instr) (s : State) :
    ∃ (start : Job → State) (resume : Job → Pos → Answer → Option State),
      exec i s = blockStep (firstCheck i s) start resume s ∧
      ∀ job, (∃ q pos, (start job).seq = .flight job q pos) ∨
        ((start job).seq = .idle ∧ (start job).status.err = 0) := by
  cases i with
  | compT => exact ⟨_, _, execCompT.eq_def s, fun _ => .inr ⟨rfl, rfl⟩⟩
  | compP => exact ⟨_, _, execCompP.eq_def s, fun _ => .inr ⟨rfl, rfl⟩⟩
  | compH => exact ⟨_, _, execCompH.eq_def s, fun _ => .inr ⟨rfl, rfl⟩⟩
  | init => exact ⟨_, _, execInit.eq_def s, fun _ => .inl ⟨_, _, rfl⟩⟩
  | _ => exact ⟨_, _, rfl, fun _ => .inl ⟨_, _, rfl⟩⟩

theorem exec_start_error {i : Instr} {s : State} {job : Job} {e : Error} (hs : s.seq = .start job)
    (he : firstCheck i s job = some e) : exec i s = .next (raise e s) := by
  obtain ⟨start, resume, hexec, -⟩ := exec_firstCheck i s
  exact hexec.trans (blockStep_start_error hs he)

theorem exec_start_passes {i : Instr} {s : State} {job : Job} (hs : s.seq = .start job)
    (hc : firstCheck i s job = none) : ∃ t, exec i s = .next t ∧
      ((∃ q pos, t.seq = .flight job q pos) ∨ (t.seq = .idle ∧ t.status.err = 0)) := by
  obtain ⟨start, resume, hexec, hstart⟩ := exec_firstCheck i s
  exact ⟨start job, hexec.trans (blockStep_start hs hc), hstart job⟩

theorem firstCheck_illegal {i : Instr} {job : Job} (h : commandLegal i job.operand = false) (s : State) :
    firstCheck i s job = some .illegalCommand := by
  simp [firstCheck, firstError, h]

theorem firstCheck_notInitialized {i : Instr} {s : State} {job : Job} (h : commandLegal i job.operand = true)
    (hne : i ≠ .init) (hi : s.status.init = false) : firstCheck i s job = some .notInitialized := by
  simp [firstCheck, firstError, h, hne, hi]

theorem firstCheck_tfineInvalid {i : Instr} {s : State} {job : Job} (h : commandLegal i job.operand = true)
    (hi : s.status.init = true) (hneeds : i = .compP ∨ i = .compH) (ht : s.status.tfv = false) :
    firstCheck i s job = some .tfineInvalid := by
  simp [firstCheck, firstError, h, hi, hneeds, ht]

theorem firstCheck_none {i : Instr} {s : State} {job : Job} (h : commandLegal i job.operand = true)
    (hi : i = .init ∨ s.status.init = true) (ht : i = .compP ∨ i = .compH → s.status.tfv = true) :
    firstCheck i s job = none :=
  firstError_none.mpr ⟨h, fun hne => hi.resolve_left (by simpa using hne), fun hneeds => ht (by simpa using hneeds)⟩

/-- The bits of a legal argument byte above those its opcode names are 0 (R83, R88). -/
theorem extractLsb'_of_argLegal {named arg : Byte} {k : Nat} (hn : named.toNat < 2 ^ k) (h : argLegal named arg = true)
    (len : Nat) : arg.extractLsb' k len = 0 := by
  have hzero : arg &&& ~~~named = 0 := beq_iff_eq.mp h
  apply BitVec.eq_of_getLsbD_eq
  intro j hj
  have hnamed : named.getLsbD (k + j) = false :=
    Nat.testBit_lt_two_pow (hn.trans_le (Nat.pow_le_pow_right two_pos (Nat.le_add_right k j)))
  have hbit := congrArg (·.getLsbD (k + j)) hzero
  simp only [BitVec.getLsbD_and, BitVec.getLsbD_not, hnamed] at hbit
  by_cases hk : k + j < 8
  · simpa [hj, hk] using hbit
  · simp [BitVec.getLsbD_of_ge arg (k + j) (by omega)]

/-- The fields of a word that decodes (R80). -/
theorem fields_of_decode_ok {w : Word} {i : Instr} (h : decode w = .ok i) :
    zeroField w = 0 ∧ opField w = i.op ∧ argField w = i.arg := by
  obtain ⟨-, rfl⟩ := decode_ok h
  exact ⟨Laws.WordFields.zeroField_encode i, Laws.WordFields.opField_encode i, Laws.WordFields.argField_encode i⟩

/-! ## What an error records (R36, R37, R173, R176) -/

@[simp] theorem Status.failed_busy (e : Error) (st : Status) : (st.failed e).busy = false := by
  cases e <;> rfl

@[simp] theorem Status.failed_errStep (e : Error) (st : Status) : (st.failed e).errStep = st.errStep := by
  cases e <;> rfl

/-- Only a transport error writes `ERR_TCODE` (R37). -/
theorem Status.failed_errTcode {e : Error} (h : ∀ c, e ≠ .transport c) (st : Status) :
    (st.failed e).errTcode = st.errTcode := by
  cases e with
  | transport c => exact absurd rfl (h c)
  | _ => rfl

/-! ## A failed transaction (R14, R143, R154, R174) -/

/-- What the script does on a failed transaction before it raises the error: it zeroes the buffer after a calibration
burst (R154) and notes the step inside a profile (R143). -/
def beforeFailure (pos : Pos) (s : State) : State :=
  match pos with
  | .calA | .calB => zeroScratch s
  | .profRead k | .profWrite k => noteStep k s
  | _ => s

/-- At every position of its script a command ends when the transaction failed (R174). -/
theorem exec_transportError {i : Instr} {s : State} {job : Job} {pos : Pos} {c : Nat}
    (h : scriptHas i pos = true) (hs : s.seq = .ready job pos (.err c)) :
    exec i s = .next (raise (.transport c) (beforeFailure pos s)) := by
  -- One case per row of `scriptHas`: first INIT's five, then every other command's, last the positions of no script.
  unfold scriptHas at h
  split at h
  case h_1 | h_2 | h_3 | h_4 | h_5 => exact exec_init_ready hs rfl
  case h_35 => cases h
  all_goals exact blockStep_ready hs rfl

end Sys2Proof.Machine

namespace Sys2Proof.Proofs

open Sys2Proof.Machine Sys2Proof.Safety

/-- Settles O43: `STATUS` after each error is `Status.failed`'s, and `raise` writes nothing but `STATUS` and
`SEQ`. -/
theorem errorCodesAreNumbered : Obligations.ErrorCodesAreNumbered := by
  intro s e
  refine ⟨rfl, s.status.failed_busy e, fun c hc => ?_, fun hc => Status.failed_errTcode hc s.status, ?_, ?_, ?_, ?_,
    s.status.failed_errStep e, rfl, rfl, rfl, rfl, rfl⟩
  · subst hc
    exact ⟨rfl, BitVec.toNat_ofNat c 8⟩
  all_goals
    rintro rfl
    rfl

/-- Settles O14: each clause is one outcome of `firstCheck`, which every command makes in its first step. -/
theorem firstStepChecksInOrder : Obligations.FirstStepChecksInOrder := by
  intro i s job hs operandBad illegal ended
  have hlegal : ¬ illegal → commandLegal i job.operand = true := fun h =>
    Bool.of_not_eq_false (mt commandLegal_eq_false_iff.mp h)
  refine ⟨fun h => ?_, fun h hne hi => ?_, fun h hi hneeds ht => ?_, fun h hi ht => ?_⟩
  · exact exec_start_error hs (firstCheck_illegal (commandLegal_eq_false_iff.mpr h) s)
  · exact exec_start_error hs (firstCheck_notInitialized (hlegal h) hne hi)
  · exact exec_start_error hs (firstCheck_tfineInvalid (hlegal h) hi hneeds ht)
  · exact exec_start_passes hs (firstCheck_none (hlegal h) hi ht)

/-- Settles O4: a word that decodes has no reserved bit set, so only a reserved bit of `ARG` is left, which the
checks of the first step find. -/
theorem illegalCommandEndsAtFirstStep : Obligations.IllegalCommandEndsAtFirstStep := by
  intro s u job w op arg hu hs hbad
  rw [step_blockMove hu (.inl hs), blockMove]
  cases hd : decode job.word with
  | error r => rfl
  | ok i =>
    obtain ⟨hwf, -⟩ := decode_ok hd
    obtain ⟨hzero, hop, harg⟩ := fields_of_decode_ok hd
    rw [show w.extractLsb' 16 16 = 0 from hzero, show op = i.op.toNat from congrArg BitVec.toNat hop,
      show arg = i.arg from harg] at hbad
    suffices hill : commandLegal i job.operand = false from
      exec_start_error ((movesFrom_seq hu).1.trans hs) (firstCheck_illegal hill u)
    cases i with
    | compT | compP | compH => simpa [commandLegal, operand20Legal, operand16Legal, Instr.op, Instr.arg] using hbad
    | setOsrsT a | setOsrsP a | setOsrsH a | setFilter a | setStandby a | applyProfile a =>
      have hreserved : a.extractLsb' 3 5 = 0 := extractLsb'_of_argLegal (named := 0x07#8) (by decide) hwf 5
      simp [Instr.op, Instr.arg, hreserved] at hbad
    | setMode a =>
      have hreserved : a.extractLsb' 2 6 = 0 := extractLsb'_of_argLegal (named := 0x03#8) (by decide) hwf 6
      simp [Instr.op, Instr.arg, hreserved] at hbad
    | init | getT | getP | getH | getMode => simp [Instr.op, Instr.arg] at hbad

/-- Settles O42: what `beforeFailure` and `raise` write, position by position. -/
theorem transportErrorEndsTheCommand : Obligations.TransportErrorEndsTheCommand := by
  intro i s job pos c h hs
  rw [exec_transportError h hs]
  cases pos <;> rfl

end Sys2Proof.Proofs

namespace Sys2Proof.Machine

open Sys2Proof.Safety

/-! ## The setters by their rows (R134 to R140) -/

/-- The three low bits of an argument byte, as R135 to R139 write them. -/
theorem zeroExtend_code3 (arg : Byte) : (code3 arg).zeroExtend 8 = arg &&& 7#8 := by
  apply BitVec.eq_of_toNat_eq
  have hmod : arg.toNat &&& 7 = arg.toNat % 8 := Nat.and_two_pow_sub_one_eq_mod arg.toNat 3
  simp [code3, hmod]
  omega

/-- The two low bits of an argument byte, as R140 writes them. -/
theorem zeroExtend_code2 (arg : Byte) : (code2 arg).zeroExtend 8 = arg &&& 3#8 := by
  apply BitVec.eq_of_toNat_eq
  have hmod : arg.toNat &&& 3 = arg.toNat % 4 := Nat.and_two_pow_sub_one_eq_mod arg.toNat 2
  simp [code2, hmod]
  omega

/-- A setter is the read-modify-write of its row's field. -/
theorem exec_of_setterRow {i : Instr} {addr mask value : Byte} (h : setterRow i = some (addr, mask, value))
    (s : State) : exec i s = setterStep i.argNamed i.arg ⟨addr, mask, value⟩ s := by
  cases i with
  | setOsrsT a | setOsrsP a | setOsrsH a | setFilter a | setStandby a =>
    cases h
    rw [← zeroExtend_code3]
    rfl
  | setMode a =>
    cases h
    rw [← zeroExtend_code2]
    rfl
  | _ => cases h

/-- What every setter has in common: its checks, its two positions, and a register that R58 lists. -/
theorem setter_facts {i : Instr} {addr mask value : Byte} (h : setterRow i = some (addr, mask, value)) :
    (∀ s, firstCheck i s = fun _ => firstError i.WellFormed true false s) ∧ i ≠ .init ∧
      scriptHas i .rmwRead = true ∧ scriptHas i .rmwWrite = true ∧ (Field.mk addr mask value).Listed := by
  cases i with
  | setOsrsT a | setOsrsP a | setOsrsH a | setFilter a | setStandby a | setMode a =>
    cases h
    exact ⟨fun _ => rfl, nofun, rfl, rfl, by simp [Field.Listed, regCtrlHum, regCtrlMeas, regConfig]⟩
  | _ => cases h

/-! ## Everything a block step can do (R84)

Three relations say once what `exec` can do: what a step writes before it asks for the next transaction, what it
writes before it ends its command, and the step itself. -/

/-- `u` is `s` after what command `i` writes before it puts its next transaction in flight. -/
inductive Prepares (s : State) : Instr → State → Prop
  | nothing {i : Instr} : Prepares s i s
  | clearSession {job : Job} (hs : s.seq = .start job) :
    Prepares s .init { s with status := s.status.sessionCleared }
  | blockA {job : Job} {bytes : List Byte} (hs : s.seq = .ready job .calA (.ok bytes)) :
    Prepares s .init { s with
      scratch := putBytes s.scratch 0 bytes, calib := decodeA (putBytes s.scratch 0 bytes) s.calib }
  | blockB {job : Job} {bytes : List Byte} (hs : s.seq = .ready job .calB (.ok bytes)) :
    Prepares s .init { takeBlockB bytes s with status := s.status.sessionReady }
  | temperature {i : Instr} {job : Job} {bytes : List Byte} (hs : s.seq = .ready job .temp (.ok bytes))
    (hi : Measures i) : Prepares s i (takeTemp bytes s)

/-- `u` is `s` after what command `i` writes before it ends without error. -/
inductive Concludes (s : State) : Instr → State → Prop
  | nothing {i : Instr} {job : Job} {pos : Pos} {bytes : List Byte} (hs : s.seq = .ready job pos (.ok bytes)) :
    Concludes s i s
  | compT {job : Job} {adc : BitVec 20} (hs : s.seq = .start job) (hpass : firstCheck .compT s job = none) :
    Concludes s .compT (storeResult (compT adc s.calib).1 (storeTFine (compT adc s.calib).2 s))
  | compP {job : Job} {adc : BitVec 20} (hs : s.seq = .start job) :
    Concludes s .compP (storePressure (compP adc s.tfine s.calib) s)
  | compH {job : Job} {adc : BitVec 16} (hs : s.seq = .start job) :
    Concludes s .compH (storeResult (compH adc s.tfine s.calib) s)
  | modeField {job : Job} {pos : Pos} {bytes : List Byte} (hs : s.seq = .ready job pos (.ok bytes)) :
    Concludes s .getMode { s with result := (modeBits (byteAt bytes 0)).zeroExtend 32 }
  | temperature {job : Job} {bytes : List Byte} (hs : s.seq = .ready job .temp (.ok bytes)) :
    Concludes s .getT (storeResult (compT (adc20 bytes) s.calib).1 (takeTemp bytes s))
  | pressure {job : Job} {bytes : List Byte} (hs : s.seq = .ready job .press (.ok bytes)) :
    Concludes s .getP (storePressure (compP (adc20 bytes) s.tfine s.calib)
      { s with scratch := putBytes s.scratch 3 bytes })
  | humidity {job : Job} {bytes : List Byte} (hs : s.seq = .ready job .hum (.ok bytes)) :
    Concludes s .getH (storeResult (compH (adc16 bytes) s.tfine s.calib)
      { s with scratch := putBytes s.scratch 3 bytes })

/-- `q` is a transaction that R58 allows at position `pos` of command `i`'s script. -/
structure Placed (i : Instr) (q : Request) (pos : Pos) : Prop where
  inScript : scriptHas i pos = true
  bytes : bytesOf q = bytesAt pos
  listed : allowed q = true

/-- How many transactions a script at `pos` still has to make, the one of `pos` among them, when `limit` bounds the
poll. -/
def transactionsLeft (limit : Nat) (job : Job) : Pos → Nat
  | .id => 15
  | .calA => 14
  | .calB => 13
  | .profRead k => 14 - 2 * k.index.toNat
  | .profWrite k => 13 - 2 * k.index.toNat
  | .rmwRead => 2
  | .rmwWrite => 1
  | .mode => limit + 4
  | .forced => limit + 3
  | .poll => limit - job.pollCount + 2
  | .temp => 2
  | .press => 1
  | .hum => 1

/-- Command `i` goes on from the answer at `pos` to position `pos'`, with `u` the state it leaves behind: the same
command word, the session as `pos'` finds it, a poll below its bound, and fewer transactions left. -/
structure GoesOn (i : Instr) (s u : State) (job : Job) (pos : Pos) (job' : Job) (pos' : Pos) : Prop where
  word : job'.word = job.word
  session : s.status.init = initAt i pos → u.status.init = initAt i pos'
  room : PollRoom s job pos → PollRoom s job' pos'
  fewer : ∀ limit, s.params.pollLimit = some limit → PollRoom s job pos →
    transactionsLeft limit job' pos' < transactionsLeft limit job pos

/-- Everything a block step of command `i` can do. -/
inductive BlockMove (i : Instr) (s : State) : State → Prop
  /-- No command runs, or a transaction is in flight (R8, R194). -/
  | waits (h : s.seq = .idle ∨ ∃ job q pos, s.seq = .flight job q pos) : BlockMove i s s
  /-- A check of the first step fails (R180). -/
  | rejects {job : Job} {e : Error} (hs : s.seq = .start job) (he : firstCheck i s job = some e) :
    BlockMove i s (raise e s)
  /-- The script begins with a transaction. -/
  | begins {job : Job} {q : Request} {pos : Pos} {u : State} (hs : s.seq = .start job) (hu : Prepares s i u)
    (hplaced : Placed i q pos) (hsession : u.status.init = initAt i pos) (hpoll : pos ≠ .poll) :
    BlockMove i s (issue job q pos u)
  /-- A transaction failed (R174). -/
  | fails {job : Job} {pos : Pos} {c : Nat} (hs : s.seq = .ready job pos (.err c)) (hin : scriptHas i pos = true) :
    BlockMove i s (raise (.transport c) (beforeFailure pos s))
  /-- A wrong identifier (R152), or a poll at its bound (R178). -/
  | stops {job : Job} {pos : Pos} {bytes : List Byte} {e : Error} (hs : s.seq = .ready job pos (.ok bytes))
    (hin : scriptHas i pos = true) (he : e = .notInitialized ∨ e = .timeout) : BlockMove i s (raise e s)
  /-- The next transaction of the script. -/
  | goesOn {job job' : Job} {pos pos' : Pos} {bytes : List Byte} {q : Request} {u : State}
    (hs : s.seq = .ready job pos (.ok bytes)) (hu : Prepares s i u) (hgo : GoesOn i s u job pos job' pos')
    (hplaced : Placed i q pos') : BlockMove i s (issue job' q pos' u)
  /-- The command ends without error (R84 step 5). -/
  | ends {u : State} (hu : Concludes s i u) : BlockMove i s (complete u)

/-- A block step whose script begins and goes on with block moves is a block move. -/
theorem BlockMove.of_blockStep {i : Instr} {start : Job → State} {resume : Job → Pos → Answer → Option State}
    {s t : State} (h : blockStep (firstCheck i s) start resume s = .next t)
    (hstart : ∀ job, s.seq = .start job → firstCheck i s job = none → BlockMove i s (start job))
    (hresume : ∀ job pos ans, s.seq = .ready job pos ans → resume job pos ans = some t → BlockMove i s t) :
    BlockMove i s t := by
  rcases blockStep_cases h with ⟨hs, rfl⟩ | ⟨job, q, pos, hs, rfl⟩ | ⟨job, e, hs, he, rfl⟩ | ⟨job, hs, hc, rfl⟩ |
    ⟨job, pos, ans, hs, hr⟩
  · exact .waits (.inl hs)
  · exact .waits (.inr ⟨job, q, pos, hs⟩)
  · exact .rejects hs he
  · exact hstart job hs hc
  · exact hresume job pos ans hs hr

/-- `INIT` is 1 at every position of a command but INIT (R163, R180). -/
theorem initAt_of_ne_init {i : Instr} (hne : i ≠ .init) (pos : Pos) : initAt i pos = true := by
  simp [initAt, hne]

theorem session_kept {i : Instr} {s : State} {pos pos' : Pos} (h : initAt i pos = true) (h' : initAt i pos' = true)
    (hs : s.status.init = initAt i pos) : s.status.init = initAt i pos' :=
  hs.trans (h.trans h'.symm)

/-- A script that begins with transaction `q` at `pos` and needs a session. -/
theorem BlockMove.begin {i : Instr} {s : State} {job : Job} {q : Request} {pos : Pos} (hs : s.seq = .start job)
    (hpass : firstCheck i s job = none) (hne : i ≠ .init) (hplaced : Placed i q pos) (hpoll : pos ≠ .poll) :
    BlockMove i s (issue job q pos s) := by
  obtain ⟨-, hinit, -⟩ := firstError_none.mp hpass
  exact .begins hs .nothing hplaced ((hinit (by simpa using hne)).trans (initAt_of_ne_init hne pos).symm) hpoll

/-- A script that goes on to a position past the poll, or before it. -/
theorem GoesOn.of_ne_poll {i : Instr} {s u : State} {job job' : Job} {pos pos' : Pos} (hword : job'.word = job.word)
    (hsession : s.status.init = initAt i pos → u.status.init = initAt i pos') (hpoll : pos' ≠ .poll)
    (hfewer : ∀ limit, transactionsLeft limit job' pos' < transactionsLeft limit job pos) :
    GoesOn i s u job pos job' pos' :=
  ⟨hword, hsession, fun _ h => absurd h hpoll, fun limit _ _ => hfewer limit⟩

/-! ### The pieces of the scripts -/

section
variable {i : Instr} {s t : State} {job : Job} {pos : Pos} {ans : Answer}

/-- `or fail`, in each of its three forms: the script ends on an `Err`, and goes on with the bytes of an `Ok`. -/
theorem BlockMove.answered (hs : s.seq = .ready job pos ans) (hin : scriptHas i pos = true)
    (herr : ∀ c, ans = .err c → t = raise (.transport c) (beforeFailure pos s))
    (hok : ∀ bytes, ans = .ok bytes → BlockMove i s t) : BlockMove i s t := by
  cases ans with
  | err c =>
    rw [herr c rfl]
    exact .fails hs hin
  | ok bytes => exact hok bytes rfl

theorem resumeSetter_move {addr mask value : Byte} (hrow : setterRow i = some (addr, mask, value))
    (hs : s.seq = .ready job pos ans) (h : resumeSetter ⟨addr, mask, value⟩ s job pos ans = some t) :
    BlockMove i s t := by
  obtain ⟨-, hne, hread, hwrite, hlisted⟩ := setter_facts hrow
  cases pos with
  | rmwRead =>
    cases h
    refine .answered hs hread (by rintro c rfl; rfl) ?_
    rintro bytes rfl
    exact .goesOn hs .nothing (.of_ne_poll rfl (session_kept (initAt_of_ne_init hne _) (initAt_of_ne_init hne _))
      nofun fun _ => by simp [transactionsLeft]) ⟨hwrite, rfl, hlisted.allowed_write _⟩
  | rmwWrite =>
    cases h
    refine .answered hs hwrite (by rintro c rfl; rfl) ?_
    rintro bytes rfl
    exact .ends (.nothing hs)
  | _ => cases h

theorem setterStep_move {addr mask value : Byte} (hrow : setterRow i = some (addr, mask, value))
    (h : exec i s = .next t) : BlockMove i s t := by
  obtain ⟨hcheck, hne, hread, -, hlisted⟩ := setter_facts hrow
  rw [exec_of_setterRow hrow, setterStep] at h
  refine .of_blockStep (by rw [hcheck]; exact h) (fun job hs hpass => ?_) fun _ _ _ => resumeSetter_move hrow
  exact .begin hs hpass hne ⟨hread, rfl, hlisted.allowed_read⟩ nofun

/-- The positions of a profile belong to the two commands that apply one. -/
theorem scriptHas_profile {p : Profile} (hp : profileOf i = some p) (k : ProfileStep) :
    scriptHas i (.profRead k) = true ∧ scriptHas i (.profWrite k) = true := by
  cases i with
  | init | applyProfile => exact ⟨rfl, rfl⟩
  | _ => cases hp

/-- Inside a profile the session is open (R143, R153). -/
theorem initAt_profile (i : Instr) (k : ProfileStep) :
    initAt i (.profRead k) = true ∧ initAt i (.profWrite k) = true := by
  simp [initAt]

theorem placed_profRead {p : Profile} (hp : profileOf i = some p) (k : ProfileStep) :
    Placed i (.read (p.field k).addr 1) (.profRead k) :=
  ⟨(scriptHas_profile hp k).1, rfl, (p.field_listed k).allowed_read⟩

theorem transactionsLeft_next {k k' : ProfileStep} (h : k.next = some k') (limit : Nat) (job : Job) :
    transactionsLeft limit job (.profRead k') < transactionsLeft limit job (.profWrite k) := by
  cases k <;> cases h <;> simp [transactionsLeft, ProfileStep.index]

theorem resumeProfile_move {p : Profile} (hp : profileOf i = some p) (hs : s.seq = .ready job pos ans)
    (h : resumeProfile p s job pos ans = some t) : BlockMove i s t := by
  cases pos with
  | profRead k =>
    cases h
    refine .answered hs (scriptHas_profile hp k).1 (by rintro c rfl; rfl) ?_
    rintro bytes rfl
    refine .goesOn hs .nothing (.of_ne_poll rfl (session_kept (initAt_profile i k).1 (initAt_profile i k).2) nofun
      fun _ => ?_)
      ⟨(scriptHas_profile hp k).2, rfl, (p.field_listed k).allowed_write _⟩
    cases k <;> simp [transactionsLeft, ProfileStep.index]
  | profWrite k =>
    cases h
    refine .answered hs (scriptHas_profile hp k).2 (by rintro c rfl; rfl) ?_
    rintro bytes rfl
    simp only [orFailAt, afterProfileStep]
    split
    · next k' hk =>
      exact .goesOn hs .nothing (.of_ne_poll rfl
        (session_kept (initAt_profile i k).2 (initAt_profile i k').1) nofun
        fun limit => transactionsLeft_next hk limit job) (placed_profRead hp k')
    · exact .ends (.nothing hs)
  | _ => cases h

theorem resumeGetMode_move (hs : s.seq = .ready job pos ans) (h : resumeGetMode s job pos ans = some t) :
    BlockMove .getMode s t := by
  cases pos with
  | mode =>
    cases h
    refine .answered hs rfl (by rintro c rfl; rfl) ?_
    rintro bytes rfl
    exact .ends (.modeField hs)
  | _ => cases h

theorem resumeInit_move (hs : s.seq = .ready job pos ans) (h : resumeInit s job pos ans = some t) :
    BlockMove .init s t := by
  cases pos with
  | id =>
    cases h
    refine .answered hs rfl (by rintro c rfl; rfl) ?_
    rintro bytes rfl
    simp only [orFail, checkId]
    split
    · exact .goesOn hs .nothing (.of_ne_poll rfl id nofun
      fun _ => by simp [transactionsLeft]) ⟨rfl, rfl, rfl⟩
    · exact .stops hs rfl (.inl rfl)
  | calA =>
    cases h
    refine .answered hs rfl (by rintro c rfl; rfl) ?_
    rintro bytes rfl
    exact .goesOn hs (.blockA hs) (.of_ne_poll rfl id nofun
      fun _ => by simp [transactionsLeft]) ⟨rfl, rfl, rfl⟩
  | calB =>
    cases h
    refine .answered hs rfl (by rintro c rfl; rfl) ?_
    rintro bytes rfl
    exact .goesOn hs (.blockB hs) (.of_ne_poll rfl (fun _ => rfl) nofun
      fun _ => by simp [transactionsLeft, ProfileStep.index]) (placed_profRead rfl .osrsT)
  | _ => exact resumeProfile_move rfl hs h

theorem scriptHas_measures (hi : Measures i) :
    scriptHas i .mode = true ∧ scriptHas i .forced = true ∧ scriptHas i .poll = true ∧ scriptHas i .temp = true := by
  rcases hi with rfl | rfl | rfl <;> exact ⟨rfl, rfl, rfl, rfl⟩

theorem ne_init_of_measures (hi : Measures i) : i ≠ .init := by
  rcases hi with rfl | rfl | rfl <;> nofun

/-- The measurement commands find the session open and leave it so (R163). -/
theorem session_measures (hi : Measures i) {pos pos' : Pos} :
    s.status.init = initAt i pos → s.status.init = initAt i pos' :=
  session_kept (initAt_of_ne_init (ne_init_of_measures hi) pos) (initAt_of_ne_init (ne_init_of_measures hi) pos')

/-- The head of the poll loop, reached from `pos` with fewer transactions left than there. -/
theorem pollLoop_move (hi : Measures i) {bytes : List Byte} (hs : s.seq = .ready job pos (.ok bytes))
    (hin : scriptHas i pos = true) {job' : Job} (hword : job'.word = job.word)
    (hcount : ∀ limit, s.params.pollLimit = some limit → PollRoom s job pos → job'.pollCount ≤ limit ∧
      transactionsLeft limit job' .poll < transactionsLeft limit job pos) : BlockMove i s (pollLoop job' s) := by
  rcases pollLoop_cases job' s with ⟨-, h⟩ | ⟨hne, h⟩ <;> rw [h]
  · exact .stops hs hin (.inr rfl)
  · refine .goesOn hs .nothing ⟨hword, session_measures hi, fun hroom _ limit hlimit => ?_,
      fun limit hlimit hroom => (hcount limit hlimit hroom).2⟩ ⟨(scriptHas_measures hi).2.2.1, rfl, rfl⟩
    refine lt_of_le_of_ne (hcount limit hlimit hroom).1 fun he => hne ?_
    rw [hlimit, he]

theorem resumePrep_move (hi : Measures i) (hs : s.seq = .ready job pos ans)
    (h : resumePrep s job pos ans = some t) : BlockMove i s t := by
  obtain ⟨hmode, hforced, hpoll, htemp⟩ := scriptHas_measures hi
  cases pos with
  | mode =>
    cases h
    refine .answered hs hmode (by rintro c rfl; rfl) ?_
    rintro bytes rfl
    simp only [orFail, forceMode]
    split
    · exact pollLoop_move hi hs hmode rfl fun limit _ _ => ⟨Nat.zero_le _, by simp [transactionsLeft]⟩
    · exact .goesOn hs .nothing (.of_ne_poll rfl (session_measures hi) nofun fun _ => by simp [transactionsLeft])
        ⟨hforced, rfl, rfl⟩
  | forced =>
    cases h
    refine .answered hs hforced (by rintro c rfl; rfl) ?_
    rintro bytes rfl
    exact pollLoop_move hi hs hforced rfl fun limit _ _ => ⟨Nat.zero_le _, by simp [transactionsLeft]⟩
  | poll =>
    cases h
    refine .answered hs hpoll (by rintro c rfl; rfl) ?_
    rintro bytes rfl
    simp only [orFail, takeStatus]
    split
    · refine pollLoop_move hi hs hpoll rfl fun limit hlimit hroom => ?_
      have hlt : job.pollCount < limit := hroom rfl limit hlimit
      exact ⟨hlt, by simp only [transactionsLeft]; omega⟩
    · refine .goesOn hs .nothing ⟨rfl, session_measures hi, fun _ => nofun, fun limit hlimit hroom => ?_⟩
        ⟨htemp, rfl, rfl⟩
      have hlt : job.pollCount < limit := hroom rfl limit hlimit
      simp only [transactionsLeft]
      omega
  | _ => cases h

theorem resumeGetT_move (hs : s.seq = .ready job pos ans) (h : resumeGetT s job pos ans = some t) :
    BlockMove .getT s t := by
  cases pos with
  | temp =>
    cases h
    refine .answered hs rfl (by rintro c rfl; rfl) ?_
    rintro bytes rfl
    exact .ends (.temperature hs)
  | _ => exact resumePrep_move (.inl rfl) hs h

theorem resumeGetP_move (hs : s.seq = .ready job pos ans) (h : resumeGetP s job pos ans = some t) :
    BlockMove .getP s t := by
  cases pos with
  | temp =>
    cases h
    refine .answered hs rfl (by rintro c rfl; rfl) ?_
    rintro bytes rfl
    exact .goesOn hs (.temperature hs (.inr (.inl rfl))) (.of_ne_poll rfl id nofun
      fun _ => by simp [transactionsLeft]) ⟨rfl, rfl, rfl⟩
  | press =>
    cases h
    refine .answered hs rfl (by rintro c rfl; rfl) ?_
    rintro bytes rfl
    exact .ends (.pressure hs)
  | _ => exact resumePrep_move (.inr (.inl rfl)) hs h

theorem resumeGetH_move (hs : s.seq = .ready job pos ans) (h : resumeGetH s job pos ans = some t) :
    BlockMove .getH s t := by
  cases pos with
  | temp =>
    cases h
    refine .answered hs rfl (by rintro c rfl; rfl) ?_
    rintro bytes rfl
    exact .goesOn hs (.temperature hs (.inr (.inr rfl))) (.of_ne_poll rfl id nofun
      fun _ => by simp [transactionsLeft]) ⟨rfl, rfl, rfl⟩
  | hum =>
    cases h
    refine .answered hs rfl (by rintro c rfl; rfl) ?_
    rintro bytes rfl
    exact .ends (.humidity hs)
  | _ => exact resumePrep_move (.inr (.inr rfl)) hs h

end

/-- The first step of a measurement command reads `ctrl_meas` (R156). -/
theorem measureStart_move {i : Instr} (hi : Measures i) {s : State} (job : Job) (hs : s.seq = .start job)
    (hpass : firstCheck i s job = none) : BlockMove i s (issue job (.read regCtrlMeas 1) .mode s) :=
  .begin hs hpass (ne_init_of_measures hi) ⟨(scriptHas_measures hi).1, rfl, rfl⟩ nofun

/-- Everything a block step can do, for every command. -/
theorem exec_blockMove {i : Instr} {s t : State} (h : exec i s = .next t) : BlockMove i s t := by
  cases i with
  | init =>
    exact .of_blockStep ((execInit.eq_def s).symm.trans h)
      (fun _ hs _ => .begins hs (.clearSession hs) ⟨rfl, rfl, rfl⟩ rfl nofun) fun _ _ _ => resumeInit_move
  | getT => exact .of_blockStep h (measureStart_move (.inl rfl)) fun _ _ _ => resumeGetT_move
  | getP => exact .of_blockStep h (measureStart_move (.inr (.inl rfl))) fun _ _ _ => resumeGetP_move
  | getH => exact .of_blockStep h (measureStart_move (.inr (.inr rfl))) fun _ _ _ => resumeGetH_move
  | compT =>
    exact .of_blockStep ((execCompT.eq_def s).symm.trans h) (fun _ hs hpass => .ends (.compT hs hpass))
      fun _ _ _ _ => nofun
  | compP =>
    exact .of_blockStep ((execCompP.eq_def s).symm.trans h) (fun _ hs _ => .ends (.compP hs)) fun _ _ _ _ => nofun
  | compH =>
    exact .of_blockStep ((execCompH.eq_def s).symm.trans h) (fun _ hs _ => .ends (.compH hs)) fun _ _ _ _ => nofun
  | setOsrsT | setOsrsP | setOsrsH | setFilter | setStandby | setMode => exact setterStep_move rfl h
  | getMode =>
    exact .of_blockStep h (fun _ hs hpass => .begin hs hpass nofun ⟨rfl, rfl, rfl⟩ nofun)
      fun _ _ _ => resumeGetMode_move
  | applyProfile =>
    exact .of_blockStep h (fun _ hs hpass => .begin hs hpass nofun (placed_profRead rfl .osrsT) nofun)
      fun _ _ _ => resumeProfile_move rfl

end Sys2Proof.Machine

namespace Sys2Proof.Machine

open Sys2Proof.Safety

/-! ## Every step keeps the invariant

The invariant splits into what the data keep, what the report says, and where the sequencer is. A block move keeps the
first on the way (`Prepares`, `Concludes`); how it ends (`raise`, `issue`, `complete`) settles the other two. -/

/-- The part of the invariant that neither the report nor the sequencer enters. -/
structure DataOk (s : State) : Prop where
  memWf : Memory.wf s.sensor.mem
  scratchLen : s.scratch.length = 33
  calvInit : s.status.calv = s.status.init
  tfvInit : s.status.tfv = true → s.status.init = true
  h4Ext : ext12 s.params.h45Ext (s.calib.digH4.truncate 12) = s.calib.digH4
  h5Ext : ext12 s.params.h45Ext (s.calib.digH5.truncate 12) = s.calib.digH5
  pollLimit : s.params.pollLimit ≠ some 0

/-- No error and no guard is reported, as while a command runs (R85). -/
def ReportClear (st : Status) : Prop := st.err = 0 ∧ st.errStep = 0 ∧ st.errTcode = 0 ∧ st.pguard = false

/-- The command of `job` has the block's next step. -/
def Due (s : State) (job : Job) : Prop := s.seq = .start job ∨ ∃ pos ans, s.seq = .ready job pos ans

theorem dataOk_of_consistent {s : State} (h : Consistent s) : DataOk s :=
  ⟨h.memWf, h.scratchLen, h.calvInit, h.tfvInit, h.h4Ext, h.h5Ext, h.pollLimit⟩

theorem busy_of_due {s : State} (h : Consistent s) {job : Job} (hs : Due s job) : s.status.busy = true := by
  rcases hs with hs | ⟨pos, ans, hs⟩ <;> exact h.busySeq.mpr (by simp [hs])

theorem reportClear_of_due {s : State} (h : Consistent s) {job : Job} (hs : Due s job) : ReportClear s.status :=
  h.busyClear (busy_of_due h hs)

/-- Only the inputs differ where the running script moves from. -/
theorem consistent_of_movesFrom {s u : State} (h : Consistent s) (hu : MovesFrom s u) : Consistent u := by
  rw [(movesFrom_seq hu).2]
  exact { h with }

/-! ### The ways a step ends -/

/-- Error codes are 1 to 5 (R173). -/
theorem Error.code_le (e : Error) : e.code.toNat ≤ 5 := by
  cases e <;> simp [Error.code]

@[simp] theorem Status.failed_init (e : Error) (st : Status) : (st.failed e).init = st.init := by
  cases e <;> rfl

@[simp] theorem Status.failed_calv (e : Error) (st : Status) : (st.failed e).calv = st.calv := by
  cases e <;> rfl

@[simp] theorem Status.failed_tfv (e : Error) (st : Status) : (st.failed e).tfv = st.tfv := by
  cases e <;> rfl

@[simp] theorem Status.failed_pguard (e : Error) (st : Status) : (st.failed e).pguard = st.pguard := by
  cases e <;> rfl

/-- An error ends the command consistently: a profile step is noted for a transport error only. -/
theorem DataOk.raise {u : State} (h : DataOk u) {e : Error} (hguard : u.status.pguard = false)
    (htcode : u.status.errTcode = 0) (hrange : u.status.errStep.toNat ≤ 6)
    (hstep : u.status.errStep ≠ 0 → ∃ c, e = .transport c) : Consistent (raise e u) where
  memWf := h.memWf
  scratchLen := h.scratchLen
  busySeq := by simp
  calvInit := by simpa using h.calvInit
  tfvInit := by simpa using h.tfvInit
  errRange := by simpa using e.code_le
  stepRange := by simpa using hrange
  busyClear := by simp
  stepErr hne := by
    obtain ⟨c, rfl⟩ := hstep (by simpa using hne)
    rfl
  tcodeErr hne := by
    by_cases hc : ∃ c, e = .transport c
    · obtain ⟨c, rfl⟩ := hc
      rfl
    · refine absurd ?_ hne
      rw [raise_status, Status.failed_errTcode (not_exists.mp hc), htcode]
  guardZero hp := by simp [hguard] at hp
  h4Ext := h.h4Ext
  h5Ext := h.h5Ext
  pollLimit := h.pollLimit
  seqOk := trivial

/-- A normal end is consistent when a guarded pressure is a zero result. -/
theorem DataOk.complete {u : State} (h : DataOk u) (hstep : u.status.errStep = 0) (htcode : u.status.errTcode = 0)
    (hguard : u.status.pguard = true → u.result = 0) : Consistent (complete u) where
  memWf := h.memWf
  scratchLen := h.scratchLen
  busySeq := by simp [Status.completed]
  calvInit := h.calvInit
  tfvInit := h.tfvInit
  errRange := Nat.zero_le 5
  stepRange := by simp [Status.completed, hstep]
  busyClear := nofun
  stepErr hne := absurd hstep hne
  tcodeErr hne := absurd htcode hne
  guardZero hp := ⟨hguard hp, rfl⟩
  h4Ext := h.h4Ext
  h5Ext := h.h5Ext
  pollLimit := h.pollLimit
  seqOk := trivial

/-- Asking for a transaction that belongs where the script is. -/
theorem DataOk.issue {u : State} (h : DataOk u) (hbusy : u.status.busy = true) (hclear : ReportClear u.status)
    {i : Instr} {job : Job} {q : Request} {pos : Pos} (hplaced : Placed i q pos)
    (hcmd : u.cmd = job.word.extractLsb' 0 16) (hdecode : decode job.word = .ok i)
    (hsession : u.status.init = initAt i pos) (hroom : PollRoom u job pos) : Consistent (issue job q pos u) := by
  obtain ⟨herr, hstep, htcode, hguard⟩ := hclear
  exact {
    memWf := h.memWf
    scratchLen := h.scratchLen
    busySeq := by simp [hbusy]
    calvInit := h.calvInit
    tfvInit := h.tfvInit
    errRange := by simp [herr]
    stepRange := by simp [hstep]
    busyClear := fun _ => ⟨herr, hstep, htcode, hguard⟩
    stepErr := fun hne => absurd hstep hne
    tcodeErr := fun hne => absurd htcode hne
    guardZero := fun hp => absurd hp (by simp [hguard])
    h4Ext := h.h4Ext
    h5Ext := h.h5Ext
    pollLimit := h.pollLimit
    seqOk := ⟨⟨hcmd, i, hdecode, hplaced.inScript, hsession⟩, hroom, hplaced.bytes, hplaced.listed⟩ }

/-! ### What a step writes on its way -/

/-- A guarded pressure is 0 (R114). -/
theorem compP_guard_zero {adc : BitVec 20} {tf : Word} {c : Calib} (h : (compP adc tf c).2 = true) :
    (compP adc tf c).1 = 0 := by
  rw [compP_guard, decide_eq_true_iff] at h
  rw [compP_of_guard h]

theorem truncate_ext12 (ext : Config.H45Ext) (v : BitVec 12) : (ext12 ext v).truncate 12 = v := by
  cases ext with
  | sext12 =>
    apply BitVec.eq_of_getElem_eq
    intro k hk
    have hwide : k < 16 := by omega
    simp [ext12, BitVec.getElem_signExtend, hk, hwide]
  | zext12 => simp [ext12]

/-- An answer that the block's next step takes: the session as its position finds it, and as many bytes as asked
for. -/
theorem consistent_answered {s : State} {job : Job} {pos : Pos} {bytes : List Byte} {i : Instr} (h : Consistent s)
    (hd : ∀ job, Due s job → decode job.word = .ok i) (hs : s.seq = .ready job pos (.ok bytes)) :
    s.status.init = initAt i pos ∧ bytes.length = bytesAt pos := by
  obtain ⟨hinit, hlength⟩ := consistent_ready h hs (hd job (.inr ⟨_, _, hs⟩))
  exact ⟨hinit, hlength bytes rfl⟩

theorem DataOk.storeResult {u : State} (h : DataOk u) (v : Word) : DataOk (storeResult v u) := { h with }

/-- A temperature compensation sets `TFV` inside a session. -/
theorem DataOk.storeTFine {u : State} (h : DataOk u) (hinit : u.status.init = true) (v : Word) :
    DataOk (storeTFine v u) :=
  { h with tfvInit := fun _ => hinit }

/-- Bytes written inside the buffer keep its length. -/
theorem DataOk.putBytes {s : State} (h : DataOk s) {off : Nat} {bytes : List Byte} (hlen : off + bytes.length ≤ 33) :
    DataOk { s with scratch := putBytes s.scratch off bytes } :=
  { h with scratchLen := (putBytes_length (h.scratchLen ▸ hlen)).trans h.scratchLen }

/-- What a step writes before its next transaction keeps the data. -/
theorem Prepares.dataOk {i : Instr} {s u : State} (h : Consistent s) (hd : ∀ job, Due s job → decode job.word = .ok i)
    (hu : Prepares s i u) : DataOk u := by
  have hdata := dataOk_of_consistent h
  cases hu with
  | nothing => exact hdata
  | clearSession hs => exact { hdata with calvInit := rfl, tfvInit := nofun }
  | blockA hs =>
    have hlen := (consistent_answered h hd hs).2
    exact { hdata.putBytes (off := 0) (by rw [hlen]; decide) with }
  | blockB hs =>
    exact { hdata with
      scratchLen := rfl, calvInit := rfl, tfvInit := fun _ => rfl,
      h4Ext := congrArg _ (truncate_ext12 _ _), h5Ext := congrArg _ (truncate_ext12 _ _) }
  | temperature hs hi =>
    obtain ⟨hinit, hlen⟩ := consistent_answered h hd hs
    exact (hdata.putBytes (by rw [hlen]; decide)).storeTFine
      (hinit.trans (initAt_of_ne_init (ne_init_of_measures hi) _)) _

/-- What a step writes before it ends its command keeps the data. -/
theorem Concludes.dataOk {i : Instr} {s u : State} (h : Consistent s)
    (hd : ∀ job, Due s job → decode job.word = .ok i) (hu : Concludes s i u) : DataOk u := by
  have hdata := dataOk_of_consistent h
  cases hu with
  | nothing | compP | modeField => exact { hdata with }
  | compT hs hpass => exact (hdata.storeTFine ((firstError_none.mp hpass).2.1 rfl) _).storeResult _
  | compH hs => exact hdata.storeResult _
  | temperature hs => exact (Prepares.dataOk h hd (.temperature hs (.inl rfl))).storeResult _
  | pressure hs =>
    have hlen := (consistent_answered h hd hs).2
    exact { hdata.putBytes (off := 3) (by rw [hlen]; decide) with }
  | humidity hs =>
    have hlen := (consistent_answered h hd hs).2
    exact (hdata.putBytes (by rw [hlen]; decide)).storeResult _

/-! ### The block's step -/

theorem due_unique {s : State} {job job' : Job} (h : Due s job) (h' : Due s job') : job' = job := by
  rcases h with h | ⟨pos, ans, h⟩ <;> rcases h' with h' | ⟨pos', ans', h'⟩ <;> simp_all

/-- What the sequencer part of the invariant says of an answered transaction. -/
theorem inScript_of_ready {s : State} {job : Job} {pos : Pos} {ans : Answer} (h : Consistent s)
    (hs : s.seq = .ready job pos ans) : InScript s job pos ∧ PollRoom s job pos := by
  have hseq := h.seqOk
  simp only [SeqOk, hs] at hseq
  exact ⟨hseq.1, hseq.2.1⟩

theorem cmd_of_due {s : State} {job : Job} (h : Consistent s) (hs : Due s job) :
    s.cmd = job.word.extractLsb' 0 16 := by
  rcases hs with hs | ⟨pos, ans, hs⟩
  · have hseq := h.seqOk
    simp only [SeqOk, hs] at hseq
    exact hseq
  · exact (inScript_of_ready h hs).1.1

theorem Prepares.kept {i : Instr} {s u : State} (hu : Prepares s i u) :
    u.cmd = s.cmd ∧ u.params = s.params ∧ u.status.busy = s.status.busy ∧
      (ReportClear s.status → ReportClear u.status) := by
  cases hu <;> exact ⟨rfl, rfl, rfl, id⟩

/-- The report at a normal end: no step and no code is noted, and a guarded pressure is a zero result (R114). -/
theorem Concludes.report {i : Instr} {s u : State} (h : ReportClear s.status) (hu : Concludes s i u) :
    u.status.errStep = 0 ∧ u.status.errTcode = 0 ∧ (u.status.pguard = true → u.result = 0) := by
  obtain ⟨-, hstep, htcode, hguard⟩ := h
  refine ⟨?_, ?_, ?_⟩
  · cases hu <;> exact hstep
  · cases hu <;> exact htcode
  · cases hu with
    | compP | pressure => exact compP_guard_zero
    | _ => exact fun hp => absurd hp (by simp [hguard, takeTemp])

theorem Concludes.due {i : Instr} {s u : State} (hu : Concludes s i u) : ∃ job, Due s job := by
  cases hu with
  | compT hs | compP hs | compH hs => exact ⟨_, .inl hs⟩
  | nothing hs | modeField hs | temperature hs | pressure hs | humidity hs => exact ⟨_, .inr ⟨_, _, hs⟩⟩

theorem ProfileStep.index_le (k : ProfileStep) : k.index.toNat ≤ 6 := by
  cases k <;> decide

/-- What the script does before it raises a transport error keeps the data, and notes at most a step. -/
theorem beforeFailure_dataOk {s : State} (h : Consistent s) (hclear : ReportClear s.status) (pos : Pos) :
    DataOk (beforeFailure pos s) ∧ (beforeFailure pos s).status.pguard = false ∧
      (beforeFailure pos s).status.errTcode = 0 ∧ (beforeFailure pos s).status.errStep.toNat ≤ 6 := by
  have hdata := dataOk_of_consistent h
  obtain ⟨-, hstep, htcode, hguard⟩ := hclear
  have hrange : s.status.errStep.toNat ≤ 6 := by simp [hstep]
  cases pos with
  | calA | calB => exact ⟨{ hdata with scratchLen := rfl }, hguard, htcode, hrange⟩
  | profRead k | profWrite k => exact ⟨{ hdata with }, hguard, htcode, k.index_le⟩
  | _ => exact ⟨hdata, hguard, htcode, hrange⟩

/-- An error raised from a clear report. -/
theorem consistent_raise {s : State} (h : Consistent s) {job : Job} (hs : Due s job) (e : Error) :
    Consistent (raise e s) := by
  obtain ⟨-, hstep, htcode, hguard⟩ := reportClear_of_due h hs
  exact (dataOk_of_consistent h).raise hguard htcode (by simp [hstep]) fun hne => absurd hstep hne

/-- A block move keeps the invariant. -/
theorem BlockMove.consistent {i : Instr} {s t : State} (h : Consistent s)
    (hd : ∀ job, Due s job → decode job.word = .ok i) (hm : BlockMove i s t) : Consistent t := by
  cases hm with
  | waits => exact h
  | rejects hs => exact consistent_raise h (.inl hs) _
  | stops hs => exact consistent_raise h (.inr ⟨_, _, hs⟩) _
  | fails hs =>
    obtain ⟨hdata, hguard, htcode, hrange⟩ :=
      beforeFailure_dataOk h (reportClear_of_due h (.inr ⟨_, _, hs⟩)) _
    exact hdata.raise hguard htcode hrange fun _ => ⟨_, rfl⟩
  | @begins job q pos u hs hu hplaced hsession hpoll =>
    have hdue : Due s job := .inl hs
    obtain ⟨hcmd, -, hbusy, hclear⟩ := hu.kept
    exact (hu.dataOk h hd).issue (hbusy.trans (busy_of_due h hdue)) (hclear (reportClear_of_due h hdue)) hplaced
      (hcmd.trans (cmd_of_due h hdue)) (hd job hdue) hsession fun hp => absurd hp hpoll
  | @goesOn job job' pos pos' bytes q u hs hu hgo hplaced =>
    have hdue : Due s job := .inr ⟨_, _, hs⟩
    obtain ⟨hcmd, hparams, hbusy, hclear⟩ := hu.kept
    have hroom : PollRoom u job' pos' := by
      have := hgo.room (inScript_of_ready h hs).2
      rwa [PollRoom, ← hparams] at this
    exact (hu.dataOk h hd).issue (hbusy.trans (busy_of_due h hdue)) (hclear (reportClear_of_due h hdue)) hplaced
      (hcmd.trans (hgo.word ▸ cmd_of_due h hdue)) (hgo.word ▸ hd job hdue)
      (hgo.session (consistent_answered h hd hs).1) hroom
  | ends hu =>
    obtain ⟨job, hdue⟩ := hu.due
    obtain ⟨hstep, htcode, hguard⟩ := hu.report (reportClear_of_due h hdue)
    exact (hu.dataOk h hd).complete hstep htcode hguard

/-! ### The host's and the transport's steps -/

theorem consistent_accept {s : State} (h : Consistent s) (w : Word) : Consistent (accept w s) where
  memWf := h.memWf
  scratchLen := h.scratchLen
  busySeq := by simp [Status.accepted]
  calvInit := h.calvInit
  tfvInit := h.tfvInit
  errRange := Nat.zero_le 5
  stepRange := Nat.zero_le 6
  busyClear _ := ⟨rfl, rfl, rfl, rfl⟩
  stepErr := absurd rfl
  tcodeErr := absurd rfl
  guardZero := nofun
  h4Ext := h.h4Ext
  h5Ext := h.h5Ext
  pollLimit := h.pollLimit
  seqOk := rfl

theorem consistent_hostStore {s : State} (h : Consistent s) (offset : Nat) (v : Word) :
    Consistent (hostStore offset v s) := by
  unfold hostStore
  split
  · split
    · exact { h with }
    · exact consistent_accept h v
  · split
    · exact { h with }
    · exact h

theorem ext12_zero (ext : Config.H45Ext) : ext12 ext 0 = 0 := by
  cases ext <;> rfl

/-- The reset state meets the invariant (R54, R55). -/
theorem consistent_reset : Consistent State.reset where
  memWf := ⟨.nil, nofun⟩
  scratchLen := rfl
  busySeq := by decide
  calvInit := rfl
  tfvInit := nofun
  errRange := Nat.zero_le 5
  stepRange := Nat.zero_le 6
  busyClear := nofun
  stepErr := absurd rfl
  tcodeErr := absurd rfl
  guardZero := nofun
  h4Ext := ext12_zero _
  h5Ext := ext12_zero _
  pollLimit := nofun
  seqOk := trivial

/-- After a block reset only the sensor and the parameters are old (R193). -/
theorem consistent_blockReset {s : State} (h : Consistent s) : Consistent (blockReset s) :=
  { consistent_reset with
    memWf := sensorAbandoned_wf h.memWf, h4Ext := ext12_zero _, h5Ext := ext12_zero _, pollLimit := h.pollLimit }

theorem consistent_hostStep {m : HostMove} {s t : State} (h : Consistent s) (ht : hostStep m s = .next t) :
    Consistent t := by
  rcases hostStep_cases ht with ⟨offset, size, v, -, -, rfl⟩ | ⟨offset, size, -, -, rfl⟩ | ⟨-, rfl⟩ | ⟨-, rfl⟩
  · exact consistent_hostStore h offset v
  · exact { h with }
  · exact h
  · exact consistent_blockReset h

/-- The answer brings the bytes that its position expects (R14, R63). -/
theorem consistent_transportStep {s : State} {job : Job} {q : Request} {pos : Pos} (h : Consistent s)
    (hs : s.seq = .flight job q pos) : Consistent (transportStep job q pos s) := by
  have hbusy : s.status.busy = true := h.busySeq.mpr (by simp [hs])
  have hseq := h.seqOk
  simp only [SeqOk, hs] at hseq
  obtain ⟨hscript, hroom, hbytes, -⟩ := hseq
  refine { h with memWf := sensorAfter_wf _ _ _ h.memWf, busySeq := by simp [transportStep, hbusy], seqOk := ?_ }
  refine ⟨hscript, hroom, fun bytes hans => ?_⟩
  rw [answerOf_length hans, ← hbytes]
  cases q <;> rfl

/-- Every step keeps the invariant. -/
theorem step_consistent {s t : State} (h : Consistent s) (ht : step s = .next t) : Consistent t := by
  rcases step_cases ht with ⟨m, rest, -, -, hh⟩ | ⟨m, rest, -, rfl⟩ | ⟨u, job, i, hu, hs, hd, he⟩ |
    ⟨u, job, r, hu, hs, -, rfl⟩ | ⟨u, job, q, pos, hu, hs, rfl⟩ | ⟨hu, -⟩
  · exact consistent_hostStep (s := { s with inputs := rest }) { h with } hh
  · exact { h with memWf := Sensor.move_wf m h.memWf }
  · have hdue : Due u job := by rwa [Due, (movesFrom_seq hu).1]
    exact (exec_blockMove he).consistent (consistent_of_movesFrom h hu) fun _ hs' => due_unique hdue hs' ▸ hd
  · have hdue : Due u job := by rwa [Due, (movesFrom_seq hu).1]
    exact consistent_raise (consistent_of_movesFrom h hu) hdue _
  · exact consistent_transportStep (consistent_of_movesFrom h hu) ((movesFrom_seq hu).1.trans hs)
  · exact consistent_of_movesFrom h hu

end Sys2Proof.Machine

namespace Sys2Proof.Proofs

open Sys2Proof.Machine Sys2Proof.Safety

/-- Settles O1: the fields of the encoded word select the row of the opcode map that holds the command. -/
theorem decodeOfEncode : Obligations.DecodeOfEncode :=
  fun _ => decode_encode

/-- Settles O54: the host's and the transport's steps one by one, and the block's by everything it can do
(`exec_blockMove`). -/
theorem stepKeepsInvariant : Obligations.StepKeepsInvariant :=
  fun _ _ => step_consistent

/-- Settles O53: each part of the invariant at the reset values. -/
theorem resetMeetsInvariant : Obligations.ResetMeetsInvariant :=
  ⟨consistent_reset, nofun⟩

end Sys2Proof.Proofs

namespace Sys2Proof.Machine

open Sys2Proof.Safety

/-! ## What a block step leaves unchanged

Whatever a block step does to the sequencer and the report, the rest of the state is `s`, or `s` after one of the
writes of `Prepares`, `Concludes` and `beforeFailure`. -/

/-- `u` is `s` after everything a block step of command `i` writes but the sequencer and the report. -/
inductive Written (i : Instr) (s : State) : State → Prop
  | prepared {u : State} (hu : Prepares s i u) : Written i s u
  | concluded {u : State} (hu : Concludes s i u) : Written i s u
  | failed {pos : Pos} (hin : scriptHas i pos = true) : Written i s (beforeFailure pos s)

/-- `u` with the sequencer and the three fields of the report that the end of a step may set. -/
def closed (q : Seq) (err : BitVec 4) (tcode : BitVec 8) (busy : Bool) (u : State) : State :=
  { u with seq := q, status := { u.status with err := err, errTcode := tcode, busy := busy } }

theorem raise_eq_closed (e : Error) (u : State) :
    raise e u = closed .idle e.code (u.status.failed e).errTcode false u := by
  cases e <;> rfl

/-- Every block move is a write, closed. -/
theorem BlockMove.written {i : Instr} {s t : State} (hm : BlockMove i s t) :
    ∃ q err tcode busy u, Written i s u ∧ t = closed q err tcode busy u := by
  cases hm with
  | waits => exact ⟨_, _, _, _, s, .prepared .nothing, rfl⟩
  | rejects | stops => exact ⟨_, _, _, _, s, .prepared .nothing, raise_eq_closed _ s⟩
  | fails hs hin => exact ⟨_, _, _, _, _, .failed hin, raise_eq_closed _ _⟩
  | begins hs hu | goesOn hs hu => exact ⟨_, _, _, _, _, .prepared hu, rfl⟩
  | ends hu => exact ⟨_, _, _, _, _, .concluded hu, rfl⟩

/-- What lies outside the block, and the registers that the host alone writes, are the same. -/
structure OutsideKept (s t : State) : Prop where
  cmd : t.cmd = s.cmd
  arg : t.arg = s.arg
  params : t.params = s.params
  sensor : t.sensor = s.sensor
  replies : t.replies = s.replies
  inputs : t.inputs = s.inputs
  hostReads : t.hostReads = s.hostReads
  trace : t.trace = s.trace
  freeCount : t.freeCount = s.freeCount
  overrun : t.status.overrun = s.status.overrun

/-- Whatever a command does before it ends, the session, the calibration and the noted step stay. -/
theorem Concludes.kept {i : Instr} {s u : State} (hu : Concludes s i u) :
    OutsideKept s u ∧ u.calib = s.calib ∧ u.status.init = s.status.init ∧ u.status.calv = s.status.calv ∧
      u.status.errStep = s.status.errStep ∧ u.status.errTcode = s.status.errTcode := by
  refine ⟨?_, ?_, ?_, ?_, ?_, ?_⟩
  · cases hu <;> constructor <;> simp [takeTemp]
  all_goals cases hu <;> simp [takeTemp]

/-- A failure is noted in the buffer and in `ERR_STEP` only (R143, R154). -/
theorem beforeFailure_kept (pos : Pos) (s : State) :
    OutsideKept s (beforeFailure pos s) ∧ (beforeFailure pos s).calib = s.calib ∧
      (beforeFailure pos s).tfine = s.tfine ∧ (beforeFailure pos s).result = s.result ∧
      (beforeFailure pos s).status.init = s.status.init ∧ (beforeFailure pos s).status.calv = s.status.calv ∧
      (beforeFailure pos s).status.tfv = s.status.tfv ∧ (beforeFailure pos s).status.pguard = s.status.pguard := by
  cases pos <;>
    exact ⟨⟨rfl, rfl, rfl, rfl, rfl, rfl, rfl, rfl, rfl, rfl⟩, rfl, rfl, rfl, rfl, rfl, rfl, rfl⟩

/-- The calibration bursts are INIT's (R154). -/
theorem init_of_scriptHas_calibration {i : Instr} (h : scriptHas i .calA = true ∨ scriptHas i .calB = true) :
    i = .init := by
  cases i with
  | init => rfl
  | _ => rcases h with h | h <;> cases h

/-- Two commands apply a profile (R142, R153). -/
theorem applies_of_scriptHas_profile {i : Instr} {k : ProfileStep}
    (h : scriptHas i (.profRead k) = true ∨ scriptHas i (.profWrite k) = true) :
    i = .init ∨ ∃ arg, i = .applyProfile arg := by
  cases i with
  | init => exact .inl rfl
  | applyProfile arg => exact .inr ⟨arg, rfl⟩
  | _ => rcases h with h | h <;> cases h

section
variable {i : Instr} {s t : State}

theorem BlockMove.outsideKept (hm : BlockMove i s t) : OutsideKept s t := by
  obtain ⟨q, err, tcode, busy, u, hu, rfl⟩ := hm.written
  have kept (hk : OutsideKept s u) : OutsideKept s (closed q err tcode busy u) := { hk with }
  cases hu with
  | prepared hu =>
    refine kept ?_
    cases hu <;> constructor <;> simp [takeBlockB, takeTemp, Status.sessionCleared, Status.sessionReady]
  | concluded hu => exact kept hu.kept.1
  | @failed pos => exact kept (beforeFailure_kept pos s).1

/-- R39: the calibration is INIT's to write, from its two bursts. -/
theorem BlockMove.calib (hm : BlockMove i s t) :
    t.calib = s.calib ∨ (i = .init ∧ ∃ job bytes,
      s.seq = .ready job .calA (.ok bytes) ∨ s.seq = .ready job .calB (.ok bytes)) := by
  obtain ⟨q, err, tcode, busy, u, hu, rfl⟩ := hm.written
  cases hu with
  | prepared hu =>
    cases hu with
    | blockA hs => exact .inr ⟨rfl, _, _, .inl hs⟩
    | blockB hs => exact .inr ⟨rfl, _, _, .inr hs⟩
    | _ => exact .inl rfl
  | concluded hu => exact .inl hu.kept.2.1
  | @failed pos => exact .inl (beforeFailure_kept pos s).2.1

/-- R40: the buffer is written by the commands that read bursts. -/
theorem BlockMove.scratch (hm : BlockMove i s t) : t.scratch = s.scratch ∨ i = .init ∨ Measures i := by
  obtain ⟨q, err, tcode, busy, u, hu, rfl⟩ := hm.written
  cases hu with
  | prepared hu =>
    cases hu with
    | nothing => exact .inl rfl
    | clearSession | blockA | blockB => exact .inr (.inl rfl)
    | temperature _ hi => exact .inr (.inr hi)
  | concluded hu =>
    cases hu with
    | temperature => exact .inr (.inr (.inl rfl))
    | pressure => exact .inr (.inr (.inr (.inl rfl)))
    | humidity => exact .inr (.inr (.inr (.inr rfl)))
    | _ => exact .inl (by simp [closed])
  | @failed pos hin =>
    cases pos with
    | calA => exact .inr (.inl (init_of_scriptHas_calibration (.inl hin)))
    | calB => exact .inr (.inl (init_of_scriptHas_calibration (.inr hin)))
    | _ => exact .inl rfl

/-- R153: only INIT opens and closes the session. -/
theorem BlockMove.session (hm : BlockMove i s t) :
    (t.status.init = s.status.init ∧ t.status.calv = s.status.calv) ∨ i = .init := by
  obtain ⟨q, err, tcode, busy, u, hu, rfl⟩ := hm.written
  cases hu with
  | prepared hu =>
    cases hu with
    | nothing | temperature => exact .inl ⟨rfl, rfl⟩
    | clearSession | blockA | blockB => exact .inr rfl
  | concluded hu =>
    obtain ⟨-, -, hinit, hcalv, -⟩ := hu.kept
    exact .inl ⟨hinit, hcalv⟩
  | @failed pos =>
    obtain ⟨-, -, -, -, hinit, hcalv, -⟩ := beforeFailure_kept pos s
    exact .inl ⟨hinit, hcalv⟩

/-- R33: only a pressure compensation writes `PGUARD`. -/
theorem BlockMove.pguard (hm : BlockMove i s t) :
    t.status.pguard = s.status.pguard ∨ i = .compP ∨ i = .getP := by
  obtain ⟨q, err, tcode, busy, u, hu, rfl⟩ := hm.written
  cases hu with
  | prepared hu => cases hu <;> exact .inl rfl
  | concluded hu =>
    cases hu with
    | compP => exact .inr (.inl rfl)
    | pressure => exact .inr (.inr rfl)
    | _ => exact .inl (by simp [closed, takeTemp])
  | @failed pos =>
    obtain ⟨-, -, -, -, -, -, -, hpguard⟩ := beforeFailure_kept pos s
    exact .inl hpguard

/-- R36: only a command that applies a profile writes `ERR_STEP`. -/
theorem BlockMove.errStep (hm : BlockMove i s t) :
    t.status.errStep = s.status.errStep ∨ i = .init ∨ ∃ arg, i = .applyProfile arg := by
  obtain ⟨q, err, tcode, busy, u, hu, rfl⟩ := hm.written
  cases hu with
  | prepared hu => cases hu <;> exact .inl rfl
  | concluded hu =>
    obtain ⟨-, -, -, -, hstep, -⟩ := hu.kept
    exact .inl hstep
  | @failed pos hin =>
    cases pos with
    | profRead k => exact .inr (applies_of_scriptHas_profile (.inl hin))
    | profWrite k => exact .inr (applies_of_scriptHas_profile (.inr hin))
    | _ => exact .inl rfl

/-- R32: a temperature compensation writes `TFINE` and sets `TFV`, and INIT's first step clears `TFV`. -/
theorem BlockMove.tfine (hm : BlockMove i s t) :
    (t.tfine = s.tfine ∧ t.status.tfv = s.status.tfv) ∨
    (t.status.tfv = true ∧ ∃ job, (s.seq = .start job ∧ i = .compT) ∨
      ∃ bytes, s.seq = .ready job .temp (.ok bytes) ∧ Measures i) ∨
    (t.tfine = s.tfine ∧ t.status.tfv = false ∧ i = .init ∧ ∃ job, s.seq = .start job) := by
  obtain ⟨q, err, tcode, busy, u, hu, rfl⟩ := hm.written
  cases hu with
  | prepared hu =>
    cases hu with
    | clearSession hs => exact .inr (.inr ⟨rfl, rfl, rfl, _, hs⟩)
    | temperature hs hi => exact .inr (.inl ⟨rfl, _, .inr ⟨_, hs, hi⟩⟩)
    | _ => exact .inl ⟨rfl, rfl⟩
  | concluded hu =>
    cases hu with
    | compT hs => exact .inr (.inl ⟨rfl, _, .inl ⟨hs, rfl⟩⟩)
    | temperature hs => exact .inr (.inl ⟨rfl, _, .inr ⟨_, hs, .inl rfl⟩⟩)
    | _ => exact .inl (by simp [closed])
  | @failed pos =>
    obtain ⟨-, -, htfine, -, -, -, htfv, -⟩ := beforeFailure_kept pos s
    exact .inl ⟨htfine, htfv⟩

/-- The commands that return a value (R26). -/
def returning : List Instr := [.getT, .getP, .getH, .compT, .compP, .compH, .getMode]

/-- R26, R177: `RESULT` is written by the last step of a command that returns a value. -/
theorem BlockMove.result (hm : BlockMove i s t) :
    t.result = s.result ∨ (t.seq = .idle ∧ t.status.err = 0 ∧ t.status.busy = false ∧ i ∈ returning) := by
  cases hm with
  | waits | rejects | stops => exact .inl rfl
  | begins hs hu | goesOn hs hu => cases hu <;> exact .inl rfl
  | @fails job pos =>
    obtain ⟨-, -, -, hresult, -⟩ := beforeFailure_kept pos s
    exact .inl hresult
  | ends hu =>
    cases hu with
    | nothing => exact .inl rfl
    | _ => exact .inr ⟨rfl, rfl, rfl, by simp [returning]⟩

/-- The checks of the first step raise no transport error (R180). -/
theorem firstCheck_ne_transport {job : Job} {e : Error} (h : firstCheck i s job = some e) (c : Nat) :
    e ≠ .transport c := by
  rintro rfl
  unfold firstCheck firstError at h
  split_ifs at h <;> cases h

/-- R37: a command without transactions writes no `ERR_TCODE`. -/
theorem BlockMove.errTcode (hm : BlockMove i s t) (h : ∀ pos, scriptHas i pos = false) :
    t.status.errTcode = s.status.errTcode := by
  cases hm with
  | waits => rfl
  | rejects hs he => exact Status.failed_errTcode (firstCheck_ne_transport he) _
  | stops hs hin => simp [h] at hin
  | fails hs hin => simp [h] at hin
  | begins hs hu | goesOn hs hu => cases hu <;> rfl
  | ends hu =>
    obtain ⟨-, -, -, -, -, htcode⟩ := hu.kept
    exact htcode

end

end Sys2Proof.Machine

namespace Sys2Proof.Machine

open Sys2Proof.Safety

/-! ## What the steps of the other agents leave unchanged (R7, R61) -/

/-- The results of the commands and the session are the same. -/
structure ResultsKept (s t : State) : Prop where
  params : t.params = s.params
  result : t.result = s.result
  tfine : t.tfine = s.tfine
  calib : t.calib = s.calib
  scratch : t.scratch = s.scratch
  init : t.status.init = s.status.init
  calv : t.status.calv = s.status.calv
  tfv : t.status.tfv = s.status.tfv

/-- What a host move that is not the reset leaves alone: the bus, the sensor and the results. -/
theorem hostStep_kept {m : HostMove} {s t : State} (h : hostStep m s = .next t) (hm : m ≠ .reset) :
    t.trace = s.trace ∧ t.replies = s.replies ∧ t.sensor = s.sensor ∧ ResultsKept s t := by
  rcases hostStep_cases h with ⟨offset, size, v, -, -, rfl⟩ | ⟨offset, size, -, -, rfl⟩ | ⟨-, rfl⟩ | ⟨rfl, -⟩
  · unfold hostStore
    split_ifs <;> exact ⟨rfl, rfl, rfl, ⟨rfl, rfl, rfl, rfl, rfl, rfl, rfl, rfl⟩⟩
  · exact ⟨rfl, rfl, rfl, ⟨rfl, rfl, rfl, rfl, rfl, rfl, rfl, rfl⟩⟩
  · exact ⟨rfl, rfl, rfl, ⟨rfl, rfl, rfl, rfl, rfl, rfl, rfl, rfl⟩⟩
  · exact absurd rfl hm

/-- Where the running script moves from, only the inputs differ. -/
theorem eq_of_movesFrom {s u : State} (h : MovesFrom s u) : ∃ l, u = { s with inputs := l } :=
  ⟨u.inputs, (movesFrom_seq h).2⟩

/-- Only a block reset and a block move of the running command write the results. -/
theorem step_results {s t : State} (h : step s = .next t) :
    (∃ rest, s.inputs = .host .reset :: rest ∧ t = blockReset { s with inputs := rest }) ∨ ResultsKept s t ∨
    ∃ l job i, Due s job ∧ decode job.word = .ok i ∧ BlockMove i { s with inputs := l } t := by
  rcases step_cases h with ⟨m, rest, hi, -, hh⟩ | ⟨m, rest, -, rfl⟩ | ⟨u, job, i, hu, hs, hd, he⟩ |
    ⟨u, job, r, hu, -, -, rfl⟩ | ⟨u, job, q, pos, hu, -, rfl⟩ | ⟨hu, -⟩
  · by_cases hm : m = .reset
    · subst hm
      cases hh
      exact .inl ⟨rest, hi, rfl⟩
    · obtain ⟨-, -, -, hkept⟩ := hostStep_kept hh hm
      exact .inr (.inl { hkept with })
  · exact .inr (.inl ⟨rfl, rfl, rfl, rfl, rfl, rfl, rfl, rfl⟩)
  · obtain ⟨l, rfl⟩ := eq_of_movesFrom hu
    exact .inr (.inr ⟨l, job, i, hs, hd, exec_blockMove he⟩)
  all_goals
    obtain ⟨l, rfl⟩ := eq_of_movesFrom hu
    exact .inr (.inl ⟨rfl, rfl, rfl, rfl, rfl, rfl, rfl, rfl⟩)

/-! ## The machine goes on (R63, R84) -/

/-- At every position of its script a command has a next step. -/
theorem exec_ready_progress {i : Instr} {s : State} {job : Job} {pos : Pos} {ans : Answer}
    (h : scriptHas i pos = true) (hs : s.seq = .ready job pos ans) : ∃ t, exec i s = .next t := by
  unfold scriptHas at h
  split at h
  case h_1 | h_2 | h_3 | h_4 | h_5 => exact ⟨_, exec_init_ready hs rfl⟩
  case h_35 => cases h
  all_goals exact ⟨_, blockStep_ready hs rfl⟩

theorem exec_start_progress {i : Instr} {s : State} {job : Job} (hs : s.seq = .start job) :
    ∃ t, exec i s = .next t := by
  cases hc : firstCheck i s job with
  | none =>
    obtain ⟨t, ht, -⟩ := exec_start_passes hs hc
    exact ⟨t, ht⟩
  | some e => exact ⟨_, exec_start_error hs hc⟩

/-- The running command's next step, in a state that meets the invariant. -/
theorem exec_progress {i : Instr} {s : State} {job : Job} (h : Consistent s) (hs : Due s job)
    (hd : decode job.word = .ok i) : ∃ t, exec i s = .next t := by
  rcases hs with hs | ⟨pos, ans, hs⟩
  · exact exec_start_progress hs
  · obtain ⟨⟨-, j, hj, hin, -⟩, -⟩ := inScript_of_ready h hs
    rw [hd] at hj
    cases hj
    exact exec_ready_progress hin hs

theorem blockMove_progress {s : State} {job : Job} (h : Consistent s) (hs : Due s job) :
    ∃ t, blockMove job.word s = .next t := by
  unfold blockMove
  split
  · next i hd => exact exec_progress h hs hd
  · exact ⟨_, rfl⟩

/-- The running script always has a next step. -/
theorem step_script_progress {s u : State} (h : Consistent s) (hu : MovesFrom s u) : ∃ t, step s = .next t := by
  have block {job : Job} (hs : Due s job) : ∃ t, step s = .next t := by
    rw [step_blockMove hu hs]
    exact blockMove_progress (consistent_of_movesFrom h hu) (by rwa [Due, (movesFrom_seq hu).1])
  cases hs : s.seq with
  | idle => exact ⟨u, step_idle hu hs⟩
  | start job => exact block (.inl hs)
  | flight job q pos => exact ⟨_, step_answer hu hs⟩
  | ready job pos ans => exact block (.inr ⟨pos, ans, hs⟩)

/-! ## The machine comes to an end (R192, R207) -/

theorem transactionsLeft_pos (limit : Nat) (job : Job) (pos : Pos) : 0 < transactionsLeft limit job pos := by
  cases pos with
  | profRead k | profWrite k => cases k <;> simp [transactionsLeft, ProfileStep.index]
  | _ => simp [transactionsLeft]

theorem transactionsLeft_le (limit : Nat) (job : Job) (pos : Pos) : transactionsLeft limit job pos ≤ limit + 15 := by
  cases pos <;> simp only [transactionsLeft] <;> omega

/-- A bound on the steps the running command still takes: two a transaction, but that an answered one is half done
(R16). -/
def stepsLeft (limit : Nat) (s : State) : Nat :=
  match s.seq with
  | .idle => 0
  | .start _ => 2 * limit + 31
  | .flight job _ pos => 2 * transactionsLeft limit job pos
  | .ready job pos _ => 2 * transactionsLeft limit job pos - 1

theorem stepsLeft_le (limit : Nat) (s : State) : stepsLeft limit s ≤ 2 * limit + 31 := by
  unfold stepsLeft
  split
  · omega
  · omega
  · next job q pos _ =>
    have := transactionsLeft_le limit job pos
    omega
  · next job pos ans _ =>
    have := transactionsLeft_le limit job pos
    omega

theorem stepsLeft_pos_of_due {s : State} {job : Job} (h : Due s job) (limit : Nat) : 0 < stepsLeft limit s := by
  rcases h with h | ⟨pos, ans, h⟩ <;> simp only [stepsLeft, h]
  · omega
  · have := transactionsLeft_pos limit job pos
    omega

/-- A block move of the running command brings it nearer its end. -/
theorem BlockMove.stepsLeft_lt {i : Instr} {s t : State} (h : Consistent s) {job : Job} (hdue : Due s job)
    {limit : Nat} (hlimit : s.params.pollLimit = some limit) (hm : BlockMove i s t) :
    stepsLeft limit t < stepsLeft limit s := by
  have hpos := stepsLeft_pos_of_due hdue limit
  cases hm with
  | waits hs => rcases hdue with hd | ⟨_, _, hd⟩ <;> rcases hs with hs | ⟨_, _, _, hs⟩ <;> simp [hd] at hs
  | rejects | fails | stops | ends => exact hpos
  | @begins job q pos u hs =>
    have := transactionsLeft_le limit job pos
    simp only [stepsLeft, issue_seq, hs]
    omega
  | @goesOn job job' pos pos' bytes q u hs hu hgo =>
    have := hgo.fewer limit hlimit (inScript_of_ready h hs).2
    simp only [stepsLeft, issue_seq, hs]
    omega

/-- With no input to come, a step of a busy machine leaves fewer steps. -/
theorem step_stepsLeft_lt {s : State} {limit : Nat} (h : Consistent s) (hi : s.inputs = [])
    (hlimit : s.params.pollLimit = some limit) (hne : s.seq ≠ .idle) :
    ∃ t, step s = .next t ∧ t.inputs = [] ∧ t.params = s.params ∧ stepsLeft limit t < stepsLeft limit s := by
  have hu : MovesFrom s s := .inl ⟨hi, rfl⟩
  have block {job : Job} (hs : Due s job) :
      ∃ t, step s = .next t ∧ t.inputs = [] ∧ t.params = s.params ∧ stepsLeft limit t < stepsLeft limit s := by
    rw [step_blockMove hu hs, blockMove]
    split
    · next i hd =>
      obtain ⟨t, ht⟩ := exec_progress h hs hd
      have hm := exec_blockMove ht
      exact ⟨t, ht, hm.outsideKept.inputs.trans hi, hm.outsideKept.params, hm.stepsLeft_lt h hs hlimit⟩
    · exact ⟨_, rfl, hi, rfl, stepsLeft_pos_of_due hs limit⟩
  cases hs : s.seq with
  | idle => exact absurd hs hne
  | start job => exact block (.inl hs)
  | ready job pos ans => exact block (.inr ⟨pos, ans, hs⟩)
  | flight job q pos =>
    refine ⟨_, step_answer hu hs, hi, rfl, ?_⟩
    have := transactionsLeft_pos limit job pos
    simp only [stepsLeft, transportStep, hs]
    omega

/-- The running command ends within the steps that `stepsLeft` counts. -/
theorem run_ends (n : Nat) {s : State} {limit : Nat} (h : Consistent s) (hi : s.inputs = [])
    (hlimit : s.params.pollLimit = some limit) (hn : stepsLeft limit s ≤ n) :
    ∃ k t, k ≤ n ∧ Sys2Proof.core.run k s = .next t ∧ t.status.busy = false := by
  induction n generalizing s with
  | zero =>
    refine ⟨0, s, le_rfl, rfl, ?_⟩
    by_contra hb
    obtain ⟨t, -, -, -, hlt⟩ := step_stepsLeft_lt h hi hlimit (h.busySeq.mp (by simpa using hb))
    omega
  | succ n ih =>
    by_cases hs : s.seq = .idle
    · exact ⟨0, s, by omega, rfl, by simpa [hs] using h.busySeq⟩
    · obtain ⟨t, hstep, hti, htp, hlt⟩ := step_stepsLeft_lt h hi hlimit hs
      obtain ⟨k, u, hk, hrun, hu⟩ := ih (step_consistent h hstep) hti (htp ▸ hlimit) (by omega)
      exact ⟨k + 1, u, by omega, (run_succ hstep k).trans hrun, hu⟩

/-! ## Which agent moves (R7) -/

theorem mover_host {s : State} {m : HostMove} {rest : List Input} (h : s.inputs = .host m :: rest)
    (hw : ¬ (m = .wait ∧ s.status.busy = true)) : mover s = .host := by
  simp [mover, h, hw]

theorem mover_sensor {s : State} {m : SensorMove} {rest : List Input} (h : s.inputs = .sensor m :: rest) :
    mover s = .transport := by
  simp [mover, h]

theorem mover_block {s u : State} {job : Job} (hu : MovesFrom s u) (hs : Due s job) : mover s = .block := by
  rw [(step_of_movesFrom hu).1]
  rcases hs with hs | ⟨pos, ans, hs⟩
  · exact turn_start hs
  · exact turn_ready hs

/-! ## The commands by what they write -/

/-- The configuration commands are none of those that write a result, the calibration, `TFINE` or `PGUARD`. -/
theorem configuration_facts {i : Instr} (h : setterRow i ≠ none ∨ ∃ arg, i = .applyProfile arg) :
    i ≠ .init ∧ i ∉ returning ∧ ¬ Measures i := by
  cases i <;> simp [setterRow, returning, Measures] at h ⊢

/-- A compensation command makes no transaction (R122 to R124). -/
theorem scriptHas_compensation {i : Instr} (h : i = .compT ∨ i = .compP ∨ i = .compH) (pos : Pos) :
    scriptHas i pos = false := by
  rcases h with rfl | rfl | rfl <;> cases pos <;> rfl

end Sys2Proof.Machine

namespace Sys2Proof.Proofs

open Sys2Proof.Machine Sys2Proof.Safety

/-- Settles O44: `OutsideKept` holds of everything a block step can do. -/
theorem blockStepLeavesTheOutsideAlone : Obligations.BlockStepLeavesTheOutsideAlone := by
  intro i s t h
  have hk := (exec_blockMove h).outsideKept
  exact ⟨hk.cmd, hk.arg, hk.params, hk.sensor, hk.replies, hk.inputs, hk.hostReads, hk.trace, hk.freeCount,
    hk.overrun, fun a => by rw [hk.sensor]⟩

/-- Settles O45: each field's lemma names the commands that write it, and each clause's commands are not among
them. -/
theorem commandFrames : Obligations.CommandFrames := by
  intro i s t h
  have hm := exec_blockMove h
  have hresult (hi : i ∉ returning) : t.result = s.result := hm.result.resolve_right fun ⟨_, _, _, h⟩ => hi h
  have hcalib (hi : i ≠ .init) : t.calib = s.calib := hm.calib.resolve_right fun h => hi h.1
  have hscratch (hi : i ≠ .init) (hme : ¬ Measures i) : t.scratch = s.scratch :=
    hm.scratch.resolve_right (not_or.mpr ⟨hi, hme⟩)
  have hsession (hi : i ≠ .init) : t.status.init = s.status.init ∧ t.status.calv = s.status.calv :=
    hm.session.resolve_right hi
  have hpguard (hc : i ≠ .compP) (hg : i ≠ .getP) : t.status.pguard = s.status.pguard :=
    hm.pguard.resolve_right (not_or.mpr ⟨hc, hg⟩)
  have htfine (hc : i ≠ .compT) (hme : ¬ Measures i) :
      t.tfine = s.tfine ∧ (i ≠ .init → t.status.tfv = s.status.tfv) := by
    rcases hm.tfine with ⟨htf, htfv⟩ | ⟨-, _, ⟨-, h⟩ | ⟨_, -, h⟩⟩ | ⟨htf, -, h, -⟩
    · exact ⟨htf, fun _ => htfv⟩
    · exact absurd h hc
    · exact absurd h hme
    · exact ⟨htf, fun hi => absurd h hi⟩
  refine ⟨fun hi => ?_, ?_, ?_, ?_, ?_, fun hi => ?_, ?_, fun ha hi => ?_, fun hi => ?_⟩
  · obtain ⟨hne, hret, hme⟩ := configuration_facts hi
    have hc : i ≠ .compT ∧ i ≠ .compP ∧ i ≠ .getP := by
      refine ⟨?_, ?_, ?_⟩ <;> rintro rfl <;> simp [returning] at hret
    obtain ⟨htf, htfv⟩ := htfine hc.1 hme
    exact ⟨hresult hret, htf, hcalib hne, hscratch hne hme, (hsession hne).1, (hsession hne).2, htfv hne,
      hpguard hc.2.1 hc.2.2⟩
  · rintro rfl
    obtain ⟨htf, htfv⟩ := htfine nofun nofun
    exact ⟨htf, hcalib nofun, hscratch nofun nofun, (hsession nofun).1, (hsession nofun).2, htfv nofun,
      hpguard nofun nofun⟩
  · rintro rfl
    exact ⟨hcalib nofun, hscratch nofun nofun, (hsession nofun).1, (hsession nofun).2, hpguard nofun nofun⟩
  · rintro (rfl | rfl) <;> exact ⟨(htfine nofun nofun).1, hcalib nofun, hscratch nofun nofun, (hsession nofun).1,
      (hsession nofun).2, (htfine nofun nofun).2 nofun⟩
  · rintro (rfl | rfl | rfl) <;> exact hpguard nofun nofun
  · have hne := ne_init_of_measures hi
    exact ⟨hcalib hne, hsession hne⟩
  · rintro rfl
    exact ⟨hresult (by decide), (htfine nofun nofun).1, hpguard nofun nofun⟩
  · exact hm.errStep.resolve_right fun h => h.elim hi fun ⟨arg, h⟩ => ha arg h
  · exact hm.errTcode (scriptHas_compensation hi)

/-- Settles O46: only a block move of INIT writes the calibration, and it takes the answer of a calibration burst. -/
theorem onlyInitWritesTheCalibration : Obligations.OnlyInitWritesTheCalibration := by
  intro s t h
  rcases step_results h with ⟨rest, hi, -⟩ | hk | ⟨l, job, i, hdue, hd, hm⟩
  · exact .inr (.inl ⟨rest, hi⟩)
  · exact .inl hk.calib
  · rcases hm.calib with hc | ⟨rfl, job', bytes, hs⟩
    · exact .inl hc
    · have hdue' : Due s job' := by rcases hs with hs | hs <;> exact .inr ⟨_, _, hs⟩
      exact .inr (.inr ⟨job', bytes, due_unique hdue hdue' ▸ hd, hs⟩)

/-- Settles O47: a block move that writes `RESULT` ends a command of `returning`. -/
theorem onlySuccessWritesTheResult : Obligations.OnlySuccessWritesTheResult := by
  intro s t h
  rcases step_results h with ⟨rest, hi, -⟩ | hk | ⟨l, job, i, hdue, hd, hm⟩
  · exact .inr (.inl ⟨rest, hi⟩)
  · exact .inl hk.result
  · rcases hm.result with hres | ⟨hseq, herr, hbusy, hi⟩
    · exact .inl hres
    · exact .inr (.inr ⟨hseq, herr, hbusy, job, i, hdue, hd, hi⟩)

/-- Settles O48: the reset clears `TFV`, every other step but a block move keeps it with `TFINE`, and a block move
does one of the three things of `BlockMove.tfine`. -/
theorem tFineIsValidOnceWritten : Obligations.TFineIsValidOnceWritten := by
  intro s t h
  rcases step_results h with ⟨rest, hi, rfl⟩ | hk | ⟨l, job, i, hdue, hd, hm⟩
  · exact ⟨fun _ => .inl ⟨rest, hi⟩, fun _ _ => .inl ⟨rest, hi⟩, fun _ => nofun⟩
  · simp +contextual [hk.tfine, hk.tfv]
  · rcases hm.tfine with ⟨htf, htfv⟩ | ⟨hset, job', hs⟩ | ⟨htf, hclear, rfl, job', hs⟩
    · simp +contextual [htf, htfv]
    · have hdue' : Due s job' := by
        rcases hs with ⟨hs, -⟩ | ⟨_, hs, -⟩
        · exact .inl hs
        · exact .inr ⟨_, _, hs⟩
      exact ⟨fun _ => .inr hset, fun _ hc => by simp [hset] at hc,
        fun _ _ => ⟨job', i, due_unique hdue hdue' ▸ hd, hs⟩⟩
    · exact ⟨fun hne => absurd htf hne, fun _ _ => .inr ⟨job', hs, due_unique hdue (.inl hs) ▸ hd⟩,
        fun _ hc => by simp [hclear] at hc⟩

/-- Settles O55: the script always has a next step, the sensor's moves and the host's legal ones have one, and
every other host access is refused by name. -/
theorem onlyMalformedHostAccessStops : Obligations.OnlyMalformedHostAccessStops := by
  intro s hc
  rcases first_move s with ⟨m, rest, hi, hw⟩ | ⟨m, rest, hi⟩ | ⟨u, hu⟩
  · cases m with
    | write offset size v =>
      by_cases hl : hostAccessLegal offset size = true
      · exact .inl ⟨_, step_host_write hi hl⟩
      · exact .inr ⟨offset, size, rest, mt hostAccessLegal_iff.mpr hl,
          step_host_write_refused hi (Bool.eq_false_iff.mpr hl), .inl ⟨v, hi⟩⟩
    | read offset size =>
      by_cases hl : hostAccessLegal offset size = true
      · exact .inl ⟨_, step_host_read hi hl⟩
      · exact .inr ⟨offset, size, rest, mt hostAccessLegal_iff.mpr hl,
          step_host_read_refused hi (Bool.eq_false_iff.mpr hl), .inr hi⟩
    | wait | reset => exact .inl ⟨_, step_host hi hw⟩
  · exact .inl ⟨_, step_sensor hi⟩
  · exact .inl (step_script_progress hc hu)

/-- Settles O57: `stepsLeft` falls with every step of a busy machine. -/
theorem everyCommandEnds : Obligations.EveryCommandEnds := by
  intro s limit hc hi hlimit
  exact run_ends _ hc hi hlimit ((stepsLeft_le limit s).trans (by omega))

/-- Settles O58: each kind of step belongs to one agent, and its lemma says what it leaves alone. -/
theorem eachAgentChangesItsOwnState : Obligations.EachAgentChangesItsOwnState := by
  intro s t h
  rcases step_cases h with ⟨m, rest, hi, hw, hh⟩ | ⟨m, rest, hi, rfl⟩ | ⟨u, job, i, hu, hs, hd, he⟩ |
    ⟨u, job, r, hu, hs, -, rfl⟩ | ⟨u, job, q, pos, hu, hs, rfl⟩ | ⟨hu, hs⟩
  · rw [mover_host hi hw]
    by_cases hm : m = .reset
    · subst hm
      cases hh
      exact ⟨rfl, fun _ => ⟨rfl, rfl, .inl ⟨rest, hi⟩⟩, nofun, nofun⟩
    · obtain ⟨htrace, hreplies, hsensor, hk⟩ := hostStep_kept hh hm
      exact ⟨hk.params, fun _ => ⟨htrace, hreplies, .inr ⟨hsensor, hk.result, hk.tfine, hk.calib, hk.scratch, hk.init,
        hk.calv, hk.tfv⟩⟩, nofun, nofun⟩
  · rw [mover_sensor hi]
    exact ⟨rfl, nofun, nofun, fun _ => ⟨rfl, rfl, rfl, rfl, rfl, rfl, rfl, rfl⟩⟩
  · rw [mover_block hu hs]
    have hk := (exec_blockMove he).outsideKept
    obtain ⟨l, rfl⟩ := eq_of_movesFrom hu
    exact ⟨hk.params, nofun, fun _ => ⟨hk.sensor, hk.trace, hk.replies, hk.hostReads, hk.cmd, hk.arg, hk.freeCount,
      hk.overrun⟩, nofun⟩
  · rw [mover_block hu hs]
    obtain ⟨l, rfl⟩ := eq_of_movesFrom hu
    exact ⟨rfl, nofun, fun _ => ⟨rfl, rfl, rfl, rfl, rfl, rfl, rfl, rfl⟩, nofun⟩
  · rw [(step_of_movesFrom hu).1, turn_flight hs]
    obtain ⟨l, rfl⟩ := eq_of_movesFrom hu
    exact ⟨rfl, nofun, nofun, fun _ => ⟨rfl, rfl, rfl, rfl, rfl, rfl, rfl, rfl⟩⟩
  · rw [(step_of_movesFrom hu).1, turn_idle hs]
    obtain ⟨l, rfl⟩ := eq_of_movesFrom hu
    exact ⟨rfl, nofun, fun _ => ⟨rfl, rfl, rfl, rfl, rfl, rfl, rfl, rfl⟩, nofun⟩

end Sys2Proof.Proofs

namespace Sys2Proof.Machine

open Sys2Proof.Safety

/-! ## Configuration commands step by step (R134 to R143) -/

/-- `UpdateField` takes each bit from the value where the mask has it, and else from the byte read (R134). -/
theorem Field.getLsbD_merge (f : Field) (r : Byte) {b : Nat} (hb : b < 8) :
    (f.merge r).getLsbD b = if f.mask.getLsbD b then f.value.getLsbD b else r.getLsbD b := by
  rw [merge, BitVec.getLsbD_or, BitVec.getLsbD_and, BitVec.getLsbD_and, BitVec.getLsbD_not]
  cases f.mask.getLsbD b <;> simp [hb]

/-- The mode field as a word (R106). -/
theorem toNat_modeBits (m : Byte) : ((modeBits m).zeroExtend 32).toNat = m.toNat % 4 := by
  rw [BitVec.toNat_setWidth_of_le (by decide)]
  simp [modeBits]

/-- The first step of a setter that passes its checks reads the register of its row. -/
theorem setter_start_passes {i : Instr} {addr mask value : Byte} (hrow : setterRow i = some (addr, mask, value))
    {s : State} {job : Job} (hs : s.seq = .start job) (hl : i.WellFormed = true) (hinit : s.status.init = true) :
    exec i s = .next (startField ⟨addr, mask, value⟩ .rmwRead job s) :=
  (exec_of_setterRow hrow s).trans (checkedStep_passes (legal := fun _ => i.WellFormed) hs hl hinit nofun)

/-- The later steps of a setter (R134). -/
theorem setter_ready {i : Instr} {addr mask value : Byte} (hrow : setterRow i = some (addr, mask, value))
    {s t : State} {job : Job} {pos : Pos} {ans : Answer} (hs : s.seq = .ready job pos ans)
    (hr : resumeSetter ⟨addr, mask, value⟩ s job pos ans = some t) : exec i s = .next t :=
  (exec_of_setterRow hrow s).trans (blockStep_ready hs hr)

/-- A step of a profile updates the field that R143 prints. -/
theorem profile_field_eq (p : Profile) (k : ProfileStep) :
    p.field k = ⟨(profileStepRow p k).1, (profileStepRow p k).2.1, (profileStepRow p k).2.2⟩ := by
  cases k <;> rfl

/-- The step after `k` has the next number (R143). -/
theorem next_of_index {k k' : ProfileStep} (h : k'.index.toNat = k.index.toNat + 1) : k.next = some k' := by
  revert h
  cases k <;> cases k' <;> decide

theorem next_of_index_six {k : ProfileStep} (h : k.index = 6) : k.next = none := by
  revert h
  cases k <;> decide

/-- After step `k` its successor begins, or the command ends (R143). -/
theorem afterProfileStep_of_next {p : Profile} {k k' : ProfileStep} (h : k.next = some k') (job : Job) (s : State) :
    afterProfileStep p k job s = startProfileStep p k' job s := by
  simp only [afterProfileStep, h]

theorem afterProfileStep_of_last {p : Profile} {k : ProfileStep} (h : k.next = none) (job : Job) (s : State) :
    afterProfileStep p k job s = complete s := by
  simp only [afterProfileStep, h]

/-! ## Runs over answered transactions (R16, R63) -/

/-- A reply that gives all the bytes of a burst is the answer (R63). -/
theorem readBytes_of_length {bytes : List Byte} {n : Nat} (h : bytes.length = n) (a : Byte) (x : Sensor) :
    readBytes bytes a n x = bytes := by
  apply List.ext_getElem
  · simp [readBytes, h]
  · intro k _ hk
    simp [readBytes, hk]

end Sys2Proof.Machine

namespace Sys2Proof.Proofs

open Sys2Proof.Machine Sys2Proof.Safety

/-- Settles O23: a setter is the read-modify-write of its row, behind the checks of a command that needs a
session. -/
theorem setterReadsItsRegister : Obligations.SetterReadsItsRegister := by
  intro i addr mask value hrow s job hs
  refine ⟨fun hl => ?_, fun hl hinit => ?_, fun hl hinit => ?_⟩
  · exact (exec_of_setterRow hrow s).trans (checkedStep_illegal (legal := fun _ => i.WellFormed) hs hl)
  · exact (exec_of_setterRow hrow s).trans
      (checkedStep_notInitialized (legal := fun _ => i.WellFormed) hs hl hinit)
  · exact setter_start_passes hrow hs hl hinit

/-- Settles O24: the later steps of a setter, with the bits of the merged byte from `Field.getLsbD_merge`. -/
theorem updateFieldReadsThenWrites : Obligations.UpdateFieldReadsThenWrites := by
  intro i addr mask value hrow s job
  refine ⟨fun r hs => ?_, fun c hs => ?_, fun hs => ?_⟩
  · exact ⟨_, setter_ready hrow hs rfl, fun b hb => Field.getLsbD_merge ⟨addr, mask, value⟩ r hb⟩
  · rcases hs with hs | hs <;> exact setter_ready hrow hs rfl
  · exact setter_ready hrow hs rfl

/-- Settles O25: the first step, then one acknowledged `UpdateField`. -/
theorem setterRunMakesTwoTransactions : Obligations.SetterRunMakesTwoTransactions := by
  intro i addr mask value hrow hl s job r bytes rest hi hs hd hinit hr
  rw [run_exec hi (.inl hs) hd (setter_start_passes hrow hs hl hinit)]
  refine (run_fieldUpdate (after := complete) (b := [r]) (b' := bytes) hd (fun u b hu => setter_ready hrow hu rfl)
    (fun u hu => setter_ready hrow hu rfl) hi (by rw [hr]; rfl) (by rw [hr]; rfl) 0).trans ?_
  simp [Host.Core.run, fieldUpdated, answeredByte, nextReply, hr, Reply.bytes, complete, Status.completed, Field.merge,
    freePerWrite]

/-- Settles O26: the three steps of GET_MODE. -/
theorem getModeReturnsTheModeField : Obligations.GetModeReturnsTheModeField := by
  refine ⟨rfl, fun s job hs => ⟨fun hinit => ?_, fun hinit => ?_⟩, fun s job m hs => ?_, fun s job c hs => ?_⟩
  · exact checkedStep_notInitialized (legal := fun _ => true) hs rfl hinit
  · exact checkedStep_passes (legal := fun _ => true) hs rfl hinit nofun
  · exact ⟨_, toNat_modeBits m, blockStep_ready hs rfl⟩
  · exact blockStep_ready hs rfl

/-- Settles O28: the profile's part of the script, with its fields as R143 prints them. -/
theorem profileStepsRunInOrder : Obligations.ProfileStepsRunInOrder := by
  intro i p hp s job k
  refine ⟨fun r hs => ?_, fun bytes hs => ⟨fun k' hk => ?_, fun hk => ?_⟩, fun c hs => ?_⟩
  · rw [exec_of_resumeProfile hp hs rfl]
    simp only [orFailAt, profile_field_eq]
    rfl
  · rw [exec_of_resumeProfile hp hs rfl, orFailAt, afterProfileStep_of_next (next_of_index hk), startProfileStep,
      profile_field_eq]
    rfl
  · rw [exec_of_resumeProfile hp hs rfl, orFailAt, afterProfileStep_of_last (next_of_index_six hk)]
    rfl
  · rcases hs with hs | hs <;> exact exec_of_resumeProfile hp hs rfl

/-- Settles O29: the checks of a command that needs a session, before the read of profile step 1. -/
theorem applyProfileStartsWithStepOne : Obligations.ApplyProfileStartsWithStepOne := by
  intro arg s job hs
  refine ⟨fun hl => ?_, fun hl hinit => ?_, fun hl hinit => ?_⟩
  · exact checkedStep_illegal (legal := fun _ => argLegal 0x07#8 arg) hs hl
  · exact checkedStep_notInitialized (legal := fun _ => argLegal 0x07#8 arg) hs hl hinit
  · exact checkedStep_passes (legal := fun _ => argLegal 0x07#8 arg) hs hl hinit nofun

/-- Settles O31: INIT has no precondition, and its first step is `startInit`. -/
theorem initClearsTheSession : Obligations.InitClearsTheSession :=
  ⟨rfl, fun _ _ hs => exec_init_start hs⟩

/-- Settles O33: the two bursts fill the buffer of 33 bytes, and a failed one zeroes it. -/
theorem initReadsTheCalibration : Obligations.InitReadsTheCalibration := by
  refine ⟨fun s job a ha _ hs => ?_, fun s job b hb hlen hs => ?_, fun s job c hs => exec_init_calibrationFailed hs⟩
  · rw [exec_init_ready hs rfl]
    simp [orFailZeroed, takeBlockA, putBytes, ha, issue, regCalB]
  · have himg : putBytes s.scratch 26 b = s.scratch.take 26 ++ b := by simp [putBytes, hb, hlen]
    rw [exec_init_ready hs rfl, orFailZeroed, takeBlockB, himg]
    rfl

/-- Settles O38: the last step of GET_T is `finishT`, whose writes are read off one by one. -/
theorem getTEndsWithTheTemperature : Obligations.GetTEndsWithTheTemperature := by
  intro s job b0 b1 b2 _ hs
  have hstep : exec .getT s = .next (finishT [b0, b1, b2] s) := blockStep_ready hs rfl
  rw [hstep]
  simp only [finishT, takeTemp, complete, storeResult, storeTFine, Status.completed]
  rfl

/-- Settles O39: the last two steps of GET_P. -/
theorem getPEndsWithThePressure : Obligations.GetPEndsWithThePressure :=
  ⟨fun _ _ _ _ _ _ hs => blockStep_ready hs rfl, fun _ _ _ _ _ _ hs => blockStep_ready hs rfl⟩

/-- Settles O40: the last two steps of GET_H. -/
theorem getHEndsWithTheHumidity : Obligations.GetHEndsWithTheHumidity :=
  ⟨fun _ _ _ _ _ _ hs => blockStep_ready hs rfl, fun _ _ _ _ _ hs => blockStep_ready hs rfl⟩

end Sys2Proof.Proofs

namespace Sys2Proof.Machine

open Sys2Proof.Safety

/-! ## Burst runs (R16, R63, R64) -/

/-- The transaction of `pos` has been answered with `bytes`, none for a write. -/
def answered (job : Job) (pos : Pos) (bytes : List Byte) (s : State) : State :=
  { s with seq := .ready job pos (.ok bytes) }

/-- What a read answered with `bytes` leaves of the state behind the sequencer. -/
def readAnswered (a : Byte) (n : Nat) (bytes : List Byte) (s : State) : State :=
  { s with
    replies := s.replies.tail
    trace := s.trace ++ [⟨s.params.slaveAddr, .read a n, .ok bytes⟩]
    freeCount := s.freeCount + freePerWrite }

/-- What an acknowledged write of `v` to `a` leaves of the state behind the sequencer. -/
def writeAnswered (a v : Byte) (s : State) : State :=
  { s with
    sensor := s.sensor.write s.freeCount a v
    replies := s.replies.tail
    trace := s.trace ++ [⟨s.params.slaveAddr, .write a v, .ok []⟩]
    freeCount := s.freeCount + freePerWrite }

section
variable {i : Instr} {s t : State} {job : Job} {pos : Pos} (hi : s.inputs = []) (hd : decode job.word = .ok i)
include hi hd

/-- A read whose bytes the reply gives, and the command's step on them. -/
theorem run_read {a : Byte} {n : Nat} {bytes : List Byte} {rest : List Reply} (hr : s.replies = .ok bytes :: rest)
    (hn : bytes.length = n)
    (he : exec i (answered job pos bytes (readAnswered a n bytes s)) = .next t) (k : Nat) :
    Sys2Proof.core.run (k + 2) (issue job (.read a n) pos s) = Sys2Proof.core.run k t := by
  have hans : transportStep job (.read a n) pos s =
      answered job pos bytes (readAnswered a n bytes s) := by
    simp [transportStep, nextReply, hr, answerOf, readBytes_of_length hn, sensorAfter, readAnswered, answered]
  rw [run_issue hi, hans]
  exact run_exec (s := (answered job pos bytes (readAnswered a n bytes s))) hi (.inr ⟨_, _, rfl⟩) hd
    he k

/-- An acknowledged write, and the command's step after it. -/
theorem run_write {a v : Byte} {bytes : List Byte} {rest : List Reply} (hr : s.replies = .ok bytes :: rest)
    (he : exec i (answered job pos [] (writeAnswered a v s)) = .next t) (k : Nat) :
    Sys2Proof.core.run (k + 2) (issue job (.write a v) pos s) = Sys2Proof.core.run k t := by
  have hreply : nextReply s = .ok bytes := by simp [nextReply, hr]
  rw [run_issue hi, transportStep_write hreply]
  exact run_exec (s := (answered job pos [] (writeAnswered a v s))) hi (.inr ⟨_, _, rfl⟩) hd he k

end

/-! ## GET_T over a sensor that measures (R160, scenario S7) -/

/-- What status reads answered with `reads` leave of the state behind the sequencer. -/
def polled (reads : List Byte) (s : State) : State :=
  { s with
    replies := s.replies.drop reads.length
    trace := s.trace ++ reads.map fun b => ⟨s.params.slaveAddr, .read regStatus 1, .ok [b]⟩
    freeCount := s.freeCount + freePerWrite * reads.length }

theorem polled_nil (s : State) : polled [] s = s := by
  simp [polled]

theorem polled_cons (b : Byte) (reads : List Byte) (s : State) :
    polled (b :: reads) s = polled reads (readAnswered regStatus 1 [b] s) := by
  have hfree : s.freeCount + freePerWrite * (reads.length + 1) =
      s.freeCount + freePerWrite + freePerWrite * reads.length := by
    rw [Nat.mul_succ]
    omega
  simp [polled, readAnswered, hfree]

/-- Status reads below the bound that all show "measuring" go on to one more. -/
theorem run_polls {i : Instr} (hm : Measures i) {reads : List Byte} (hreads : ∀ b ∈ reads, measuringBit b = true)
    {s : State} {job : Job} {rest : List Reply} (hi : s.inputs = []) (hd : decode job.word = .ok i)
    (hlimit : ∀ limit, s.params.pollLimit = some limit → job.pollCount + reads.length < limit)
    (hr : s.replies = (reads.map fun b => Reply.ok [b]) ++ rest) (k : Nat) :
    Sys2Proof.core.run (k + 2 * reads.length) (issue job (.read regStatus 1) .poll s) =
      Sys2Proof.core.run k (issue { job with pollCount := job.pollCount + reads.length } (.read regStatus 1) .poll
        (polled reads s)) := by
  induction reads generalizing s job with
  | nil => rw [polled_nil]; rfl
  | cons b reads ih =>
    have hne : s.params.pollLimit ≠ some (job.pollCount + 1) := fun h => by
      have := hlimit _ h
      simp at this
    let u : State := answered job .poll [b] (readAnswered regStatus 1 [b] s)
    have hstep : exec i u = .next (issue { job with pollCount := job.pollCount + 1 } (.read regStatus 1) .poll u) := by
      rw [exec_poll hm (s := u) rfl, takeStatus_of_measuring (hreads b (by simp)), pollLoop_below_limit]
      exact hne
    calc Sys2Proof.core.run (k + 2 * (b :: reads).length) (issue job (.read regStatus 1) .poll s)
      _ = Sys2Proof.core.run (k + 2 * reads.length)
            (issue { job with pollCount := job.pollCount + 1 } (.read regStatus 1) .poll u) :=
        run_read hi hd hr rfl hstep _
      _ = _ := ih (fun c hc => hreads c (by simp [hc])) (s := readAnswered regStatus 1 [b] s) hi hd
        (fun limit h => by have := hlimit limit h; simp only [List.length_cons] at this ⊢; omega)
        (by simp [readAnswered, hr])
      _ = _ := by
        rw [polled_cons, List.length_cons, Nat.add_right_comm, Nat.add_assoc]

theorem exec_getT_ready {s t : State} {job : Job} {pos : Pos} {ans : Answer} (hs : s.seq = .ready job pos ans)
    (hr : resumeGetT s job pos ans = some t) : exec .getT s = .next t :=
  blockStep_ready hs hr

/-- GET_T from acceptance to its end over a sensor in Sleep or Forced that answers with the mode byte `m`, with
`reads` while it measures, and with the status byte `st` and the burst when it has measured. -/
theorem run_getT {s : State} {job : Job} {m st : Byte} {bytes reads burst : List Byte} {rest : List Reply}
    (hi : s.inputs = []) (hs : s.seq = .start job) (hd : decode job.word = .ok .getT) (hinit : s.status.init = true)
    (hm : m.toNat % 4 ≠ 3) (hreads : ∀ b ∈ reads, measuringBit b = true) (hst : measuringBit st = false)
    (hlimit : ∀ limit, s.params.pollLimit = some limit → reads.length < limit) (hburst : burst.length = 3)
    (hr : s.replies = .ok [m] :: .ok bytes :: (reads.map fun b => Reply.ok [b]) ++ .ok [st] :: .ok burst :: rest) :
    let s₁ := readAnswered regCtrlMeas 1 [m] s
    let s₂ := writeAnswered regCtrlMeas (forcedByte m) s₁
    let s₃ := readAnswered regStatus 1 [st] (polled reads s₂)
    let s₄ := readAnswered regTemp 3 burst s₃
    ∃ j, Sys2Proof.core.run (2 * reads.length + 9) s = .next (finishT burst (answered j .temp burst s₄)) := by
  intro s₁ s₂ s₃ s₄
  have hmeas : Measures .getT := .inl rfl
  have hzero : s.params.pollLimit ≠ some 0 := fun h => Nat.not_lt_zero _ (hlimit 0 h)
  let j₁ : Job := { job with m := m }
  let j₂ : Job := { j₁ with pollCount := 0 }
  let j₃ : Job := { j₂ with pollCount := 0 + reads.length }
  let j₄ : Job := { j₃ with pollCount := j₃.pollCount + 1 }
  have hcount : 2 * reads.length + 9 = 4 + 2 * reads.length + 2 + 2 + 1 := by omega
  have hr₁ : s₁.replies = .ok bytes :: ((reads.map fun b => Reply.ok [b]) ++ .ok [st] :: .ok burst :: rest) := by
    simp [s₁, readAnswered, hr]
  have hr₂ : s₂.replies = (reads.map fun b => Reply.ok [b]) ++ .ok [st] :: .ok burst :: rest := by
    simp [s₂, writeAnswered, hr₁]
  have hr₃ : (polled reads s₂).replies = .ok [st] :: .ok burst :: rest := by simp [polled, hr₂]
  have hr₄ : s₃.replies = .ok burst :: rest := by simp [s₃, readAnswered, hr₃]
  have hlimit₂ : ∀ limit, s₂.params.pollLimit = some limit → j₂.pollCount + reads.length < limit := fun limit h =>
    (Nat.zero_add _).trans_lt (hlimit limit h)
  have hstart : exec .getT s = .next (issue job (.read regCtrlMeas 1) .mode s) :=
    checkedStep_passes (legal := fun _ => true) hs rfl hinit nofun
  have hmode : exec .getT (answered job .mode [m] s₁) =
      .next (issue j₁ (.write regCtrlMeas (forcedByte m)) .forced s₁) :=
    exec_of_resumePrep (pos := .mode) hmeas rfl (congrArg some (forceMode_of_not_normal hm job _))
  have hforced : exec .getT (answered j₁ .forced [] s₂) = .next (issue j₂ (.read regStatus 1) .poll s₂) :=
    exec_of_resumePrep (pos := .forced) hmeas rfl
      (congrArg some (startPoll_eq (s := answered j₁ .forced [] s₂) hzero j₁))
  have hpolled : exec .getT (answered j₃ .poll [st] s₃) = .next (issue j₄ (.read regTemp 3) .temp s₃) :=
    (exec_poll hmeas rfl).trans (congrArg _ (takeStatus_of_clear hst j₃ _))
  have htemp : exec .getT (answered j₄ .temp burst s₄) = .next (finishT burst (answered j₄ .temp burst s₄)) :=
    exec_getT_ready (pos := .temp) rfl rfl
  refine ⟨j₄, ?_⟩
  rw [hcount]
  calc Sys2Proof.core.run (4 + 2 * reads.length + 2 + 2 + 1) s
    _ = Sys2Proof.core.run (4 + 2 * reads.length + 2 + 2) (issue job (.read regCtrlMeas 1) .mode s) :=
      run_exec hi (.inl hs) hd hstart _
    _ = Sys2Proof.core.run (4 + 2 * reads.length + 2) (issue j₁ (.write regCtrlMeas (forcedByte m)) .forced s₁) :=
      run_read hi hd hr rfl hmode _
    _ = Sys2Proof.core.run (4 + 2 * reads.length) (issue j₂ (.read regStatus 1) .poll s₂) :=
      run_write (s := s₁) (job := j₁) hi hd hr₁ hforced _
    _ = Sys2Proof.core.run 4 (issue j₃ (.read regStatus 1) .poll (polled reads s₂)) :=
      run_polls hmeas hreads (s := s₂) (job := j₂) hi hd hlimit₂ hr₂ _
    _ = Sys2Proof.core.run 2 (issue j₄ (.read regTemp 3) .temp s₃) :=
      run_read (s := polled reads s₂) (job := j₃) hi hd hr₃ rfl hpolled _
    _ = Sys2Proof.core.run 0 (finishT burst (answered j₄ .temp burst s₄)) :=
      run_read (s := s₃) (job := j₄) hi hd hr₄ hburst htemp _

/-! ## INIT from acceptance to its end (R152 to R155) -/

/-- The buffer after both blocks of a buffer of 33 bytes is the image (R102). -/
theorem putBytes_blocks {buf a b : List Byte} (hbuf : buf.length = 33) (ha : a.length = 26) (hb : b.length = 7) :
    putBytes (putBytes buf 0 a) 26 b = a ++ b := by
  simp [putBytes, ha, hb, hbuf]

/-- Acknowledged profile steps make two transactions each and leave the block alone (R143). -/
theorem profileUpdated_kept (p : Profile) (ks : List ProfileStep) (s : State) :
    (profileUpdated p ks s).trace.length = s.trace.length + 2 * ks.length ∧
      ResultsKept s (profileUpdated p ks s) ∧ (profileUpdated p ks s).status = s.status := by
  induction ks generalizing s with
  | nil => exact ⟨rfl, ⟨rfl, rfl, rfl, rfl, rfl, rfl, rfl, rfl⟩, rfl⟩
  | cons k ks ih =>
    obtain ⟨htrace, hkept, hstatus⟩ := ih (fieldUpdated (p.field k) s)
    refine ⟨htrace.trans ?_, { hkept with }, hstatus⟩
    simp [fieldUpdated]
    omega

/-- INIT over a transport that answers with the right identifier and two blocks and acknowledges the rest. -/
theorem run_init {s : State} {job : Job} {a b : List Byte} {rest : List Reply} (hi : s.inputs = [])
    (hs : s.seq = .start job) (hd : decode job.word = .ok .init) (ha : a.length = 26) (hb : b.length = 7)
    (hack : Acknowledged rest) (hr : s.replies = .ok [s.params.chipId] :: .ok a :: .ok b :: rest) :
    ∃ u, Sys2Proof.core.run 31 s = .next (complete (profileUpdated (profileRow 0) profileSteps u)) ∧
      u.status = s.status.sessionCleared.sessionReady ∧ u.result = s.result ∧ u.tfine = s.tfine ∧
      u.calib = decodeB s.params.h45Ext (putBytes (putBytes s.scratch 0 a) 26 b)
        (decodeA (putBytes s.scratch 0 a) s.calib) ∧
      u.scratch = List.replicate 33 0 ∧ u.trace.length = s.trace.length + 3 := by
  let s₁ : State := { s with status := s.status.sessionCleared }
  let s₂ := readAnswered regId 1 [s.params.chipId] s₁
  let s₃ := readAnswered regCalA 26 a s₂
  let s₄ : State := { s₃ with
    scratch := putBytes s.scratch 0 a, calib := decodeA (putBytes s.scratch 0 a) s.calib }
  let s₅ := readAnswered regCalB 7 b s₄
  let u : State := { takeBlockB b s₅ with status := s₅.status.sessionReady }
  let j₁ : Job := { job with burst := a }
  let j₂ : Job := { j₁ with burst := b }
  have hr₂ : s₂.replies = .ok a :: .ok b :: rest := by simp [s₂, s₁, readAnswered, hr]
  have hr₄ : s₄.replies = .ok b :: rest := by simp [s₄, s₃, readAnswered, hr₂]
  have hr₅ : u.replies = rest := by simp [u, s₅, takeBlockB, readAnswered, hr₄]
  have hid : exec .init (answered job .id [s.params.chipId] s₂) = .next (issue job (.read regCalA 26) .calA s₂) :=
    exec_init_ready (pos := .id) rfl
      (congrArg some (checkId_of_eq (s := answered job .id [s.params.chipId] s₂) rfl job))
  have hA : exec .init (answered job .calA a s₃) = .next (issue j₁ (.read regCalB 7) .calB s₄) :=
    exec_init_ready (pos := .calA) rfl rfl
  have hB : exec .init (answered j₁ .calB b s₅) = .next (startProfileStep (profileRow 0) .osrsT j₂ u) :=
    exec_init_ready (pos := .calB) rfl rfl
  refine ⟨u, ?_, rfl, rfl, rfl, rfl, rfl, by simp [u, s₅, s₄, s₃, s₂, s₁, takeBlockB, readAnswered]⟩
  calc Sys2Proof.core.run 31 s
    _ = Sys2Proof.core.run 30 (issue job (.read regId 1) .id s₁) := run_exec hi (.inl hs) hd (exec_init_start hs) _
    _ = Sys2Proof.core.run 28 (issue job (.read regCalA 26) .calA s₂) := run_read (s := s₁) hi hd hr rfl hid _
    _ = Sys2Proof.core.run 26 (issue j₁ (.read regCalB 7) .calB s₄) := run_read (s := s₂) hi hd hr₂ ha hA _
    _ = Sys2Proof.core.run 24 (startProfileStep (profileRow 0) .osrsT j₂ u) :=
      run_read (s := s₄) (job := j₁) hi hd hr₄ hb hB _
    _ = .next (complete (profileUpdated (profileRow 0) profileSteps u)) :=
      run_profileSteps (i := .init) rfl (job := j₂) hd stepsFrom_osrsT hi (hr₅ ▸ hack)

end Sys2Proof.Machine

namespace Sys2Proof.Proofs

open Sys2Proof.Machine Sys2Proof.Safety

/-- Settles O41: `run_getT` gives the end state of the run, and its record is that of its five parts. -/
theorem getTRunMakesTheScenarioTransactions : Obligations.GetTRunMakesTheScenarioTransactions := by
  intro s job m st b0 b1 b2 bytes reads rest hi hs hd hinit _ hm hreads hst hlimit hr
  obtain ⟨j, hrun⟩ := run_getT hi hs hd hinit hm hreads hst hlimit rfl hr
  refine ⟨_, hrun, rfl, rfl, rfl, rfl, ?_⟩
  simp [finishT, takeTemp, answered, readAnswered, writeAnswered, polled, Function.comp_def, List.map_const',
    List.replicate_succ', regCtrlMeas, regStatus, regTemp, forcedByte]

/-- Settles O35: `run_init` gives the state before the profile, and the profile keeps the results and makes twelve
transactions. -/
theorem initRunOpensTheSession : Obligations.InitRunOpensTheSession := by
  intro s job a b writes hc hi hs hd ha hb hlen hack hr
  obtain ⟨u, hrun, hstatus, hresult, htfine, hcalib, hscratch, htrace⟩ := run_init hi hs hd ha hb hack hr
  obtain ⟨hlength, hkept, hsame⟩ := profileUpdated_kept (profileRow 0) profileSteps u
  rw [putBytes_blocks hc.scratchLen ha hb, decodeA_putBytes_zero s.scratch ha] at hcalib
  refine ⟨_, hrun, rfl, ?_, hkept.calib.trans hcalib, hkept.scratch.trans hscratch, hkept.result.trans hresult,
    hkept.tfine.trans htfine, ?_⟩
  · rw [complete_status, hsame, hstatus]
    rfl
  · rw [complete_trace, hlength, htrace]
    rfl

end Sys2Proof.Proofs

namespace Sys2Proof.Machine

open Sys2Proof.Safety

/-! ## The sensor's registers (R44 to R56, R72, R150) -/

theorem Sensor.reg_setMeasuring_ne (x : Sensor) (on : Bool) {b : Byte} (h : b ≠ regStatus) :
    (x.setMeasuring on).reg b = x.reg b :=
  x.reg_put_ne _ h

/-- `setMeasuring` sets the bit that `measuring` reads (R47). -/
theorem Sensor.measuring_setMeasuring {x : Sensor} (h : Memory.wf x.mem) (on : Bool) :
    (x.setMeasuring on).measuring = on := by
  rw [measuring, setMeasuring, reg_put_self h]
  cases on <;> simp [measuringBit]

@[simp] theorem Sensor.setMeasuring_humCtl (x : Sensor) (on : Bool) : (x.setMeasuring on).humCtl = x.humCtl := rfl

/-- A register write leaves every other address as it reads. -/
theorem Sensor.read_put_ne (x : Sensor) {a : Byte} {b : Nat} (v : Byte) (h : b ≠ a.toNat) :
    Memory.read (x.put a v).mem b = Memory.read x.mem b :=
  Sys2Proof.Machine.read_put_ne x.mem v h

/-! ### Writes that reach the sensor, and writes that do not (R72, R134, R193) -/

/-- A lost write may change its own register only, and for `ctrl_meas` the status (log entry 6). -/
theorem Sensor.read_lostWrite (x : Sensor) (free : Nat) {a : Byte} {b : Nat} (hb : b ≠ a.toNat)
    (hstatus : ¬ (a = regCtrlMeas ∧ b = 0xF3)) :
    Memory.read (x.lostWrite free a).mem b = Memory.read x.mem b := by
  unfold lostWrite
  dsimp only
  split
  · next ha =>
    have hne : b ≠ regStatus.toNat := fun h => hstatus ⟨ha, h⟩
    rw [setMeasuring, read_put_ne _ _ hne]
    split <;> exact x.read_put_ne _ hb
  · exact x.read_put_ne _ hb

/-- A reset reaches the sensor only through a write in flight (R193, R195). -/
theorem sensorAbandoned_of_no_write {s : State} (h : ∀ job a v pos, s.seq ≠ .flight job (.write a v) pos) :
    sensorAbandoned s = s.sensor := by
  unfold sensorAbandoned
  split
  · next job a v pos hs => exact absurd hs (h job a v pos)
  · rfl

/-- A write to `config` takes effect, but that the sensor may ignore it in Normal mode (R201). -/
theorem Sensor.write_config (x : Sensor) (free : Nat) (v : Byte) :
    x.write free regConfig v = x.put regConfig v ∨ (isNormal x.mode = true ∧ x.write free regConfig v = x) := by
  by_cases h : (isNormal x.mode && Config.freeBool free) = true
  · exact .inr ⟨(Bool.and_eq_true_iff.mp h).1, if_pos h⟩
  · exact .inl (if_neg h)

/-- Where R150 gives the effect, a write to `ctrl_meas` stores its byte. -/
theorem Sensor.writeCtrlMeas_of_given {x : Sensor} {v : Byte} (h : x.modeWriteOpen v = false) (free : Nat) :
    (x.writeCtrlMeas free v).mem = (x.put regCtrlMeas v).mem := by
  simp [writeCtrlMeas, h, put]

/-- A write to `ctrl_meas` changes no other register but, where its effect is open, the status (log entry 7). -/
theorem Sensor.read_writeCtrlMeas (x : Sensor) (free : Nat) (v : Byte) {b : Nat} (hb : b ≠ 0xF4)
    (hstatus : ¬ (b = 0xF3 ∧ x.modeWriteOpen v = true)) :
    Memory.read (x.writeCtrlMeas free v).mem b = Memory.read x.mem b := by
  unfold writeCtrlMeas
  dsimp only
  split
  · next ho =>
    have hne : b ≠ regStatus.toNat := fun h => hstatus ⟨h, ho⟩
    rw [setMeasuring, read_put_ne _ _ hne]
    split <;> exact read_put_ne _ _ hb
  · exact read_put_ne _ _ hb

/-- Every write to `ctrl_meas` makes the pending `ctrl_hum` the one in effect (R46, R200). -/
theorem Sensor.writeCtrlMeas_humCtl (x : Sensor) (free : Nat) (v : Byte) :
    (x.writeCtrlMeas free v).humCtl = (x.reg regCtrlHum).extractLsb' 0 3 := by
  unfold writeCtrlMeas
  dsimp only
  split
  · rw [setMeasuring_humCtl]
    split <;> rfl
  · rfl

/-- The step that answers an acknowledged write. -/
theorem step_write_acknowledged {s u : State} {job : Job} {a v : Byte} {pos : Pos} {bytes : List Byte}
    (hu : MovesFrom s u) (hs : s.seq = .flight job (.write a v) pos) (hr : nextReply s = .ok bytes) :
    ∃ t, step s = .next t ∧ t.seq = .ready job pos (.ok []) ∧ t.sensor = s.sensor.write s.freeCount a v := by
  obtain ⟨t, hstep, hseq, hsensor, -⟩ := step_answer_effect hu hs
  rw [hr] at hseq hsensor
  exact ⟨t, hstep, hseq, hsensor⟩

/-! ### The sensor's reset (R45, R55) -/

theorem read_filter (p : Nat → Bool) (m : Memory) (a : Nat) :
    Memory.read (m.filter fun c => p c.1) a = if p a then Memory.read m a else Memory.unlisted a := by
  induction m with
  | nil => simp [Memory.read]
  | cons c rest ih =>
    by_cases hc : p c.1 = true
    · by_cases ha : c.1 = a
      · subst ha
        simp [Memory.read, hc]
      · simp [Memory.read, hc, ha, ih]
    · by_cases ha : c.1 = a
      · subst ha
        simp [hc, ih]
      · simp [Memory.read, hc, ha, ih]

/-- The addresses of the factory calibration (R53). -/
def isFactory (a : Nat) : Bool := (0x88 ≤ a && a ≤ 0xA1) || (0xE1 ≤ a && a ≤ 0xE7)

theorem Sensor.reg_powerOn (x : Sensor) (a : Byte) :
    x.powerOn.reg a = if isFactory a.toNat then x.reg a else Memory.unlisted a.toNat :=
  read_filter isFactory x.mem a.toNat

/-! ### A forced measurement (R94, R150, R200) -/

/-- Reading a 20-bit value back from the three bytes it was split into (R50, R51, R99). -/
theorem adc20_bytes (raw : BitVec 20) :
    adc20 [raw.extractLsb' 12 8, raw.extractLsb' 4 8, (raw.extractLsb' 0 4).zeroExtend 8 <<< 4] = raw := by
  have hraw := raw.isLt
  apply BitVec.eq_of_toNat_eq
  rw [toNat_adc20]
  simp [byteAt, Nat.shiftRight_eq_div_pow, Nat.shiftLeft_eq]
  omega

/-- Reading a 16-bit value back from the two bytes it was split into (R52, R100). -/
theorem adc16_bytes (raw : BitVec 16) : adc16 [raw.extractLsb' 8 8, raw.extractLsb' 0 8] = raw := by
  have hraw := raw.isLt
  apply BitVec.eq_of_toNat_eq
  rw [toNat_adc16]
  simp [byteAt, Nat.shiftRight_eq_div_pow]
  omega

theorem Sensor.reg_putRaw20_ne (x : Sensor) {a b : Byte} (raw : BitVec 20) (h : b ≠ a ∧ b ≠ a + 1 ∧ b ≠ a + 2) :
    (x.putRaw20 a raw).reg b = x.reg b := by
  rw [putRaw20, reg_put_ne _ _ h.2.2, reg_put_ne _ _ h.2.1, reg_put_ne _ _ h.1]

theorem Sensor.reg_putRaw16_ne (x : Sensor) {a b : Byte} (raw : BitVec 16) (h : b ≠ a ∧ b ≠ a + 1) :
    (x.putRaw16 a raw).reg b = x.reg b := by
  rw [putRaw16, reg_put_ne _ _ h.2, reg_put_ne _ _ h.1]

/-- A burst of the three registers returns the value put there. -/
theorem Sensor.adc20_putRaw20 {x : Sensor} (h : Memory.wf x.mem) {a b c : Byte} (hb : b = a + 1) (hc : c = a + 2)
    (raw : BitVec 20) :
    adc20 [(x.putRaw20 a raw).reg a, (x.putRaw20 a raw).reg b, (x.putRaw20 a raw).reg c] = raw := by
  subst hb hc
  have h01 : a ≠ a + 1 := by bv_omega
  have h02 : a ≠ a + 2 := by bv_omega
  have h12 : a + 1 ≠ a + 2 := by bv_omega
  have hput := put_wf a (raw.extractLsb' 12 8) h
  rw [putRaw20, reg_put_ne _ _ h02, reg_put_ne _ _ h01, reg_put_self h, reg_put_ne _ _ h12, reg_put_self hput,
    reg_put_self (put_wf _ _ hput), adc20_bytes]

theorem Sensor.adc16_putRaw16 {x : Sensor} (h : Memory.wf x.mem) {a b : Byte} (hb : b = a + 1) (raw : BitVec 16) :
    adc16 [(x.putRaw16 a raw).reg a, (x.putRaw16 a raw).reg b] = raw := by
  subst hb
  have h01 : a ≠ a + 1 := by bv_omega
  rw [putRaw16, reg_put_ne _ _ h01, reg_put_self h, reg_put_self (put_wf _ _ h), adc16_bytes]

theorem Sensor.start_of_forced {x : Sensor} (hf : isForced x.mode = true) (hm : x.measuring = false) :
    x.start = x.latch.setMeasuring true := by
  have hsleep : x.mode ≠ 0#2 := fun h => by simp [h, isForced] at hf
  simp [start, hm, hsleep]

/-- The data registers after a measurement: each quantity's reading, or the value of R101 when it was skipped. -/
def Sensor.withReadings (y : Sensor) (rawT rawP : BitVec 20) (rawH : BitVec 16) : Sensor :=
  ((y.putRaw20 regTemp (if y.liveT then rawT else 0x80000#20)).putRaw20 regPress
    (if y.liveP then rawP else 0x80000#20)).putRaw16 regHum (if y.liveH then rawH else 0x8000#16)

theorem Sensor.finish_of_forced {y : Sensor} (hf : isForced y.mode = true) (hm : y.measuring = true)
    (rawT rawP : BitVec 20) (rawH : BitVec 16) :
    y.finish rawT rawP rawH =
      ((y.withReadings rawT rawP rawH).setMeasuring false).put regCtrlMeas (y.reg regCtrlMeas &&& 0xFC#8) := by
  simp only [finish, hm, if_true, hf]
  rfl

theorem Sensor.withReadings_wf {y : Sensor} (h : Memory.wf y.mem) (rawT rawP : BitVec 20) (rawH : BitVec 16) :
    Memory.wf (y.withReadings rawT rawP rawH).mem :=
  putRaw16_wf _ _ (putRaw20_wf _ _ (putRaw20_wf _ _ h))

/-- The three blocks of data registers do not overlap. -/
theorem Sensor.withReadings_data {y : Sensor} (h : Memory.wf y.mem) (rawT rawP : BitVec 20) (rawH : BitVec 16) :
    let w := y.withReadings rawT rawP rawH
    adc20 [w.reg 0xFA#8, w.reg 0xFB#8, w.reg 0xFC#8] = (if y.liveT then rawT else 0x80000#20) ∧
    adc20 [w.reg 0xF7#8, w.reg 0xF8#8, w.reg 0xF9#8] = (if y.liveP then rawP else 0x80000#20) ∧
    adc16 [w.reg 0xFD#8, w.reg 0xFE#8] = (if y.liveH then rawH else 0x8000#16) := by
  let yT := y.putRaw20 regTemp (if y.liveT then rawT else 0x80000#20)
  let yP := yT.putRaw20 regPress (if y.liveP then rawP else 0x80000#20)
  intro w
  have hTwf : Memory.wf yT.mem := putRaw20_wf _ _ h
  have hPwf : Memory.wf yP.mem := putRaw20_wf _ _ hTwf
  have hpress (b : Byte) (hb : b ≠ regHum ∧ b ≠ regHum + 1) : w.reg b = yP.reg b := reg_putRaw16_ne _ _ hb
  have htemp (b : Byte) (hb : b ≠ regHum ∧ b ≠ regHum + 1) (hb' : b ≠ regPress ∧ b ≠ regPress + 1 ∧ b ≠ regPress + 2) :
      w.reg b = yT.reg b := (hpress b hb).trans (reg_putRaw20_ne _ _ hb')
  refine ⟨?_, ?_, adc16_putRaw16 (a := regHum) hPwf (by decide) _⟩
  · rw [htemp 0xFA#8 (by decide) (by decide), htemp 0xFB#8 (by decide) (by decide),
      htemp 0xFC#8 (by decide) (by decide)]
    exact adc20_putRaw20 (a := regTemp) h (by decide) (by decide) _
  · rw [hpress 0xF7#8 (by decide), hpress 0xF8#8 (by decide), hpress 0xF9#8 (by decide)]
    exact adc20_putRaw20 (a := regPress) hTwf (by decide) (by decide) _

/-- A skipped quantity has oversampling 0 (R94). -/
theorem ite_live {α : Type} (code : BitVec 3) (raw skipped : α) :
    (if (code != 0) = true then raw else skipped) = if code = 0 then skipped else raw := by
  by_cases h : code = 0 <;> simp [h]

theorem modeBits_and_sleep (m : Byte) : modeBits (m &&& 0xFC#8) = 0 := by
  apply BitVec.eq_of_getLsbD_eq
  intro k hk
  have hk' : k = 0 ∨ k = 1 := by omega
  rcases hk' with rfl | rfl <;> simp [modeBits]

end Sys2Proof.Machine

namespace Sys2Proof.Proofs

open Sys2Proof.Machine Sys2Proof.Safety

/-- Settles O3: each word is the word of a legal command. -/
theorem sampleWordsSelectTheirCommands : Obligations.SampleWordsSelectTheirCommands :=
  ⟨decode_encode (i := .init) rfl, decode_encode (i := .getT) rfl, decode_encode (i := .compP) rfl,
    decode_encode (i := .setOsrsT 5#8) rfl, decode_encode (i := .setStandby 7#8) rfl,
    decode_encode (i := .setMode 2#8) rfl, decode_encode (i := .applyProfile 6#8) rfl⟩

/-- Settles O5: `mover` and `step` for each of the five moves. -/
theorem stepRunsTheDecodedCommand : Obligations.StepRunsTheDecodedCommand := by
  refine ⟨fun s u job i hu hs hd => ⟨mover_block hu hs, ?_⟩, fun s u job q pos hu hs => ⟨?_, step_answer hu hs⟩,
    fun s u hu hs => ⟨?_, step_idle hu hs⟩, fun s rest hi hb => ?_,
    fun s m rest hi => ⟨mover_sensor hi, step_sensor hi⟩⟩
  · rw [step_blockMove hu hs, blockMove, hd]
  · exact (step_of_movesFrom hu).1.trans (turn_flight hs)
  · exact (step_of_movesFrom hu).1.trans (turn_idle hs)
  · have hw : ¬ (HostMove.wait = .wait ∧ s.status.busy = true) := by simp [hb]
    exact ⟨mover_host hi hw, step_host hi hw⟩

/-- Settles O10: an unsigned field is widened with its unsigned value, a signed one with its signed value. -/
theorem calibrationWordsAreWidened : Obligations.CalibrationWordsAreWidened := by
  intro c
  have unsigned {m : Nat} (h : m < 32) (x : BitVec m) := (toInt_operand h x).1
  have signed {m : Nat} (h : m < 32) (x : BitVec m) := (toInt_operand h x).2
  exact ⟨unsigned (by decide) _, signed (by decide) _, signed (by decide) _, unsigned (by decide) _,
    signed (by decide) _, signed (by decide) _, signed (by decide) _, signed (by decide) _, signed (by decide) _,
    signed (by decide) _, signed (by decide) _, signed (by decide) _, unsigned (by decide) _, signed (by decide) _,
    unsigned (by decide) _, signed (by decide) _, signed (by decide) _, signed (by decide) _⟩

/-- Settles O12: `blockReset` writes the reset values, and the sensor differs from before by a lost write at most. -/
theorem blockResetAbandonsTheScript : Obligations.BlockResetAbandonsTheScript := by
  intro s rest hi
  refine ⟨_, step_host hi (by simp), rfl, rfl, rfl, rfl, rfl, rfl, rfl, rfl, rfl, rfl, rfl, rfl, fun hno => ?_,
    fun job a v pos hs b hb hstatus => ?_⟩
  · exact sensorAbandoned_of_no_write (s := { s with inputs := rest }) hno
  · simp only [blockReset, sensorAbandoned, hs]
    exact Sensor.read_lostWrite s.sensor _ hb hstatus

/-- Settles O13: after the reset a factory register reads as before and every other one as its unlisted value. -/
theorem sensorPowerOnValues : Obligations.SensorPowerOnValues := by
  intro s rest hi
  have reset {a v : Byte} (ha : isFactory a.toNat = false) (hv : Memory.unlisted a.toNat = v) :
      s.sensor.powerOn.reg a = v := by
    rw [Sensor.reg_powerOn, ha, if_neg Bool.false_ne_true, hv]
  refine ⟨_, step_sensor hi, reset rfl rfl, reset rfl rfl, reset rfl rfl, reset rfl rfl, reset rfl rfl, reset rfl rfl,
    reset rfl rfl, reset rfl rfl, reset rfl rfl, reset rfl rfl, reset rfl rfl, reset rfl rfl, reset rfl rfl,
    fun a ha => ?_⟩
  have hfactory : isFactory a.toNat = true := by simpa [isFactory] using ha
  exact (Sensor.reg_powerOn _ a).trans (if_pos hfactory)

/-- Settles O50: the write's effect on its own register and on the others, register by register. -/
theorem writesChangeOnlyTheirRegister : Obligations.WritesChangeOnlyTheirRegister := by
  intro s u job a v pos bytes hwf hu hs hr ha
  obtain ⟨t, hstep, hseq, hsensor⟩ := step_write_acknowledged hu hs hr
  refine ⟨t, hstep, hseq, ?_⟩
  rw [hsensor]
  rcases ha with rfl | rfl | rfl
  · exact ⟨fun _ => read_put_self hwf _ v, nofun, nofun, fun b hb _ => s.sensor.read_put_ne v hb⟩
  · refine ⟨nofun, fun _ hgiven => ?_, nofun, fun b hb hno => ?_⟩
    · exact (congrArg (Memory.read · 0xF4) (Sensor.writeCtrlMeas_of_given hgiven _)).trans (read_put_self hwf _ v)
    · exact s.sensor.read_writeCtrlMeas _ v hb fun h => hno ⟨rfl, h⟩
  · rcases s.sensor.write_config s.freeCount v with hw | ⟨hnormal, hw⟩
    · exact ⟨nofun, nofun, fun _ _ => (congrArg (fun x => Memory.read x.mem 0xF5) hw).trans (read_put_self hwf _ v),
        fun b hb _ => (congrArg (fun x => Memory.read x.mem b) hw).trans (s.sensor.read_put_ne v hb)⟩
    · exact ⟨nofun, nofun, fun _ hmode => absurd (beq_iff_eq.mp hnormal) hmode,
        fun b _ _ => congrArg (fun x => Memory.read x.mem b) hw⟩

/-- Settles O51: a write to `ctrl_hum` stores a register only, and one to `ctrl_meas` latches it. -/
theorem humidityOversamplingIsLatched : Obligations.HumidityOversamplingIsLatched := by
  intro s u job a v pos bytes hu hr hs
  obtain ⟨t, hstep, -, hsensor⟩ := step_write_acknowledged hu hs hr
  refine ⟨t, hstep, ?_, ?_⟩ <;> rintro rfl <;> rw [hsensor]
  · rfl
  · exact s.sensor.writeCtrlMeas_humCtl _ v

/-- Settles O52: the start latches what is measured and raises `measuring`; the end writes the data registers,
clears `measuring` and returns to Sleep, each in registers of its own. -/
theorem forcedMeasurementUpdatesTheData : Obligations.ForcedMeasurementUpdatesTheData := by
  intro x rawT rawP rawH hwf hforced hidle ctrl y z
  have hy : y = x.latch.setMeasuring true := Sensor.start_of_forced hforced hidle
  have hywf : Memory.wf y.mem := Sensor.start_wf hwf
  have hmeasuring : y.measuring = true := by
    rw [hy]
    exact Sensor.measuring_setMeasuring hwf true
  have hmode : y.mode = x.mode := by
    rw [hy]
    exact congrArg modeBits (x.latch.reg_setMeasuring_ne true (by decide))
  let w := y.withReadings rawT rawP rawH
  have hwwf : Memory.wf w.mem := Sensor.withReadings_wf hywf rawT rawP rawH
  have hz : z = (w.setMeasuring false).put regCtrlMeas (y.reg regCtrlMeas &&& 0xFC#8) :=
    Sensor.finish_of_forced (hmode ▸ hforced) hmeasuring rawT rawP rawH
  have hdata {b : Byte} (hctrl : b ≠ regCtrlMeas) (hstatus : b ≠ regStatus) : z.reg b = w.reg b := by
    rw [hz, Sensor.reg_put_ne _ _ hctrl, Sensor.reg_setMeasuring_ne _ _ hstatus]
  obtain ⟨hT, hP, hH⟩ := Sensor.withReadings_data hywf rawT rawP rawH
  refine ⟨hmeasuring, hmode, ?_, ?_, ?_, ?_, ?_⟩
  · rw [hz, Sensor.measuring, Sensor.reg_put_ne _ _ (by decide)]
    exact Sensor.measuring_setMeasuring hwwf false
  · rw [hz, Sensor.mode, Sensor.reg_put_self (Sensor.setMeasuring_wf _ hwwf)]
    exact modeBits_and_sleep _
  · rw [hdata (by decide) (by decide), hdata (by decide) (by decide), hdata (by decide) (by decide), hT, hy]
    exact ite_live _ _ _
  · rw [hdata (by decide) (by decide), hdata (by decide) (by decide), hdata (by decide) (by decide), hP, hy]
    exact ite_live _ _ _
  · rw [hdata (by decide) (by decide), hdata (by decide) (by decide), hH, hy]
    exact ite_live _ _ _

end Sys2Proof.Proofs
